-- ==== Sys2Proof/Word.lean ====
section
/-! DEFINITION. The word types of the core (R10, R29, R100). -/

namespace Sys2Proof

/-- A 32-bit register or memory word (R10, R38). -/
abbrev Word : Type := BitVec 32

/-- A 48-bit microword (R100). -/
abbrev Microword : Type := BitVec 48

/-- A 14-bit micro-PC (R13). -/
abbrev MicroPc : Type := BitVec 14

/-- A 14-bit physical page number (R61). -/
abbrev Ppn : Type := BitVec 14

end Sys2Proof
end

