-- ==== Sys2Proof/Syntax.lean ====
section
/-! DEFINITION. The instructions: one constructor of `Instr` per row of `spec/opcode_table.json`.

The rows overlap: a word of the ALU class has at once a row for its function, its output selector, its Q control,
its M-source and its destination. So each constructor names ONE field of the word by its row and carries all the
other fields, and the parts of a word are types of their own here. `Sys2Proof.Decode` chooses the row a word is
named by (log 1). -/

namespace Sys2Proof

/-- The 64 ALU function codes in the order of their numbers (R110); 28 of them are undefined (R185). -/
inductive AluFn where
  | setz | and | andca | setm | andcm | seta | xor | ior | andcb | eqv | setca | orca | setcm | orcm | orcb
  | seto | a20 | a21 | a22 | a23 | a24 | a25 | sub | a27 | a30 | add | a32 | a33 | incm | a35 | a36 | lshm
  | mul | div | undef42 | undef43 | undef44 | divrc | undef46 | undef47 | undef50 | divfs | undef52 | undef53
  | undef54 | undef55 | undef56 | undef57 | undef60 | undef61 | undef62 | undef63 | undef64 | undef65
  | undef66 | undef67 | undef70 | undef71 | undef72 | undef73 | undef74 | undef75 | undef76 | undef77
deriving DecidableEq, Repr

/-- Output selector `OB` (R111, R222). -/
inductive OutSel where
  | undef | alu | r1 | l1
deriving DecidableEq, Repr

/-- Q control `QC` (R111). -/
inductive QCtl where
  | none | ql | qr | qload
deriving DecidableEq, Repr

/-- Table condition `JCOND` of a JUMP (R112). -/
inductive JCond where
  | never | lt | le | eq | pf | pfi | pfis | always
deriving DecidableEq, Repr

/-- `MISC` of a JUMP word (R108): normal, halt, and the two undefined values (R259). -/
inductive JMisc where
  | none | halt | misc2 | misc3
deriving DecidableEq, Repr

/-- `MISC` of a DISPATCH word (R108). -/
inductive DispKind where
  | normal | misc1 | write | posmod
deriving DecidableEq, Repr

/-- Byte operation `BOP` (R114). -/
inductive ByteFn where
  | undef | ldb | sel | dpb
deriving DecidableEq, Repr

/-- The 32 functional-source codes in the order of their numbers (R115, R168). -/
inductive FSrc where
  | dispatchConstant | spcPtrAndData | pdlPointer | pdlIndex | undef04 | pdlBufferIndex | opc | q | vma
  | mapMd | md | lc | spcPtrAndDataPop | undef15 | undef16 | undef17 | undef20 | undef21 | undef22 | undef23
  | pdlBufferPointerPop | pdlBufferPointer | undef26 | undef27 | undef30 | undef31 | undef32 | undef33
  | undef34 | undef35 | undef36 | undef37
deriving DecidableEq, Repr

/-- The 32 functional-destination codes in the order of their numbers (R116, R323). -/
inductive FDest where
  | none | lc | interruptControl | undef03 | undef04 | undef05 | undef06 | undef07 | pdlByPointer
  | pdlByPointerPush | pdlByIndex | pdlIndex | pdlPointer | spcPush | oaLo | oaHi | vma | vmaStartRead
  | vmaStartWrite | vmaWriteMap | undef24 | undef25 | undef26 | undef27 | md | mdStartRead | mdStartWrite
  | mdWriteMap | undef34 | undef35 | undef36 | undef37
deriving DecidableEq, Repr

/-- The M-source field (R107): plain M-memory, or a functional source. -/
inductive MSrc where
  | m (addr : BitVec 5)
  | fs (f : FSrc)
deriving DecidableEq, Repr

/-- The destination field (R106): direct A-memory (bit 24 ignored), a functional destination with its M-memory
address, or a word with the reserved bit 24 set and `ADIR = 0` (R323). -/
inductive Dest where
  | a (b24 : Bool) (addr : BitVec 10)
  | fn (f : FDest) (maddr : BitVec 5)
  | reserved (fdest : BitVec 5) (maddr : BitVec 5)
deriving DecidableEq, Repr

/-- The three top bits that execution ignores (R101, R119). -/
structure Ignored where
  b47 : Bool
  stat : Bool
  ilong : Bool
deriving DecidableEq, Repr

/-- The fields common to all classes but for the A-source (R101). -/
structure Head where
  ign : Ignored
  popj : Bool
  src : MSrc
deriving DecidableEq, Repr

/-- The remaining fields of an ALU word (R102); bit 9 is ignored by execution. -/
structure AluBits where
  asrc : BitVec 10
  misc : BitVec 2
  b9 : Bool
  cin : Bool
deriving DecidableEq, Repr

/-- What an ALU word computes (R102). -/
structure AluOp where
  fn : AluFn
  ob : OutSel
  qc : QCtl
  bits : AluBits
deriving DecidableEq, Repr

/-- The remaining fields of a BYTE word (R105). -/
structure ByteBits where
  asrc : BitVec 10
  misc : BitVec 2
  widm1 : BitVec 5
  brot : BitVec 5
deriving DecidableEq, Repr

/-- What a BYTE word computes (R105). -/
structure ByteOp where
  fn : ByteFn
  bits : ByteBits
deriving DecidableEq, Repr

/-- An operation that drives the output bus: ALU or BYTE class. -/
inductive BusOp where
  | alu (op : AluOp)
  | byte (op : ByteOp)
deriving DecidableEq, Repr

/-- The test of a JUMP word (R103, R112): a table condition with the ignored bits 4:3, or a bit test. -/
inductive JTest where
  | table (c : JCond) (b43 : BitVec 2)
  | bit (rot : BitVec 5)
deriving DecidableEq, Repr

/-- A-source, target, N and INV of a JUMP word (R103). -/
structure JumpBits where
  asrc : BitVec 10
  jaddr : MicroPc
  n : Bool
  inv : Bool
deriving DecidableEq, Repr

/-- The class part of a JUMP word (R103). -/
structure JumpOp where
  misc : JMisc
  r : Bool
  p : Bool
  test : JTest
  bits : JumpBits
deriving DecidableEq, Repr

/-- The remaining fields of a DISPATCH word (R104). -/
structure DispBits where
  dconst : BitVec 10
  nplus1 : Bool
  ish : Bool
  b23 : Bool
  daddr : BitVec 11
  dmap : BitVec 2
  dlen : BitVec 3
  drot : BitVec 5
deriving DecidableEq, Repr

/-- The class part of a DISPATCH word (R104). -/
structure DispOp where
  kind : DispKind
  bits : DispBits
deriving DecidableEq, Repr

/-- The class part of a word. -/
inductive Body where
  | bus (op : BusOp) (dest : Dest)
  | jump (op : JumpOp)
  | disp (op : DispOp)
deriving DecidableEq, Repr

/-- A word with every field named: what the bits of a word say, before any row of the table is chosen for it. -/
structure Micro where
  head : Head
  body : Body
deriving DecidableEq, Repr

/-- The instructions, one constructor per row of the opcode table. -/
inductive Instr where
  /-- NOP (R118). -/
  | nop (b47 : Bool) (b12 : Bool)
  /-- ALU.SETZ (R186). -/
  | aluSetz (h : Head) (d : Dest) (b : AluBits) (ob : OutSel) (qc : QCtl)
  /-- ALU.AND (R187). -/
  | aluAnd (h : Head) (d : Dest) (b : AluBits) (ob : OutSel) (qc : QCtl)
  /-- ALU.ANDCA (R188). -/
  | aluAndca (h : Head) (d : Dest) (b : AluBits) (ob : OutSel) (qc : QCtl)
  /-- ALU.SETM (R189). -/
  | aluSetm (h : Head) (d : Dest) (b : AluBits) (ob : OutSel) (qc : QCtl)
  /-- ALU.ANDCM (R190). -/
  | aluAndcm (h : Head) (d : Dest) (b : AluBits) (ob : OutSel) (qc : QCtl)
  /-- ALU.SETA (R191). -/
  | aluSeta (h : Head) (d : Dest) (b : AluBits) (ob : OutSel) (qc : QCtl)
  /-- ALU.XOR (R192). -/
  | aluXor (h : Head) (d : Dest) (b : AluBits) (ob : OutSel) (qc : QCtl)
  /-- ALU.IOR (R193). -/
  | aluIor (h : Head) (d : Dest) (b : AluBits) (ob : OutSel) (qc : QCtl)
  /-- ALU.ANDCB (R194). -/
  | aluAndcb (h : Head) (d : Dest) (b : AluBits) (ob : OutSel) (qc : QCtl)
  /-- ALU.EQV (R195). -/
  | aluEqv (h : Head) (d : Dest) (b : AluBits) (ob : OutSel) (qc : QCtl)
  /-- ALU.SETCA (R196). -/
  | aluSetca (h : Head) (d : Dest) (b : AluBits) (ob : OutSel) (qc : QCtl)
  /-- ALU.ORCA (R197). -/
  | aluOrca (h : Head) (d : Dest) (b : AluBits) (ob : OutSel) (qc : QCtl)
  /-- ALU.SETCM (R198). -/
  | aluSetcm (h : Head) (d : Dest) (b : AluBits) (ob : OutSel) (qc : QCtl)
  /-- ALU.ORCM (R199). -/
  | aluOrcm (h : Head) (d : Dest) (b : AluBits) (ob : OutSel) (qc : QCtl)
  /-- ALU.ORCB (R200). -/
  | aluOrcb (h : Head) (d : Dest) (b : AluBits) (ob : OutSel) (qc : QCtl)
  /-- ALU.SETO (R201). -/
  | aluSeto (h : Head) (d : Dest) (b : AluBits) (ob : OutSel) (qc : QCtl)
  /-- ALU.A20 (R202). -/
  | aluA20 (h : Head) (d : Dest) (b : AluBits) (ob : OutSel) (qc : QCtl)
  /-- ALU.A21 (R203). -/
  | aluA21 (h : Head) (d : Dest) (b : AluBits) (ob : OutSel) (qc : QCtl)
  /-- ALU.A22 (R204). -/
  | aluA22 (h : Head) (d : Dest) (b : AluBits) (ob : OutSel) (qc : QCtl)
  /-- ALU.A23 (R205). -/
  | aluA23 (h : Head) (d : Dest) (b : AluBits) (ob : OutSel) (qc : QCtl)
  /-- ALU.A24 (R206). -/
  | aluA24 (h : Head) (d : Dest) (b : AluBits) (ob : OutSel) (qc : QCtl)
  /-- ALU.A25 (R207). -/
  | aluA25 (h : Head) (d : Dest) (b : AluBits) (ob : OutSel) (qc : QCtl)
  /-- ALU.SUB (R208). -/
  | aluSub (h : Head) (d : Dest) (b : AluBits) (ob : OutSel) (qc : QCtl)
  /-- ALU.A27 (R209). -/
  | aluA27 (h : Head) (d : Dest) (b : AluBits) (ob : OutSel) (qc : QCtl)
  /-- ALU.A30 (R210). -/
  | aluA30 (h : Head) (d : Dest) (b : AluBits) (ob : OutSel) (qc : QCtl)
  /-- ALU.ADD (R211). -/
  | aluAdd (h : Head) (d : Dest) (b : AluBits) (ob : OutSel) (qc : QCtl)
  /-- ALU.A32 (R212). -/
  | aluA32 (h : Head) (d : Dest) (b : AluBits) (ob : OutSel) (qc : QCtl)
  /-- ALU.A33 (R213). -/
  | aluA33 (h : Head) (d : Dest) (b : AluBits) (ob : OutSel) (qc : QCtl)
  /-- ALU.INCM (R214). -/
  | aluIncm (h : Head) (d : Dest) (b : AluBits) (ob : OutSel) (qc : QCtl)
  /-- ALU.A35 (R215). -/
  | aluA35 (h : Head) (d : Dest) (b : AluBits) (ob : OutSel) (qc : QCtl)
  /-- ALU.A36 (R216). -/
  | aluA36 (h : Head) (d : Dest) (b : AluBits) (ob : OutSel) (qc : QCtl)
  /-- ALU.LSHM (R217). -/
  | aluLshm (h : Head) (d : Dest) (b : AluBits) (ob : OutSel) (qc : QCtl)
  /-- ALU.MUL (R218). -/
  | aluMul (h : Head) (d : Dest) (b : AluBits) (ob : OutSel) (qc : QCtl)
  /-- ALU.DIV (R219). -/
  | aluDiv (h : Head) (d : Dest) (b : AluBits) (ob : OutSel) (qc : QCtl)
  /-- ALU.UNDEF.0o42 (R185). -/
  | aluUndef42 (h : Head) (d : Dest) (b : AluBits) (ob : OutSel) (qc : QCtl)
  /-- ALU.UNDEF.0o43 (R185). -/
  | aluUndef43 (h : Head) (d : Dest) (b : AluBits) (ob : OutSel) (qc : QCtl)
  /-- ALU.UNDEF.0o44 (R185). -/
  | aluUndef44 (h : Head) (d : Dest) (b : AluBits) (ob : OutSel) (qc : QCtl)
  /-- ALU.DIVRC (R220). -/
  | aluDivrc (h : Head) (d : Dest) (b : AluBits) (ob : OutSel) (qc : QCtl)
  /-- ALU.UNDEF.0o46 (R185). -/
  | aluUndef46 (h : Head) (d : Dest) (b : AluBits) (ob : OutSel) (qc : QCtl)
  /-- ALU.UNDEF.0o47 (R185). -/
  | aluUndef47 (h : Head) (d : Dest) (b : AluBits) (ob : OutSel) (qc : QCtl)
  /-- ALU.UNDEF.0o50 (R185). -/
  | aluUndef50 (h : Head) (d : Dest) (b : AluBits) (ob : OutSel) (qc : QCtl)
  /-- ALU.DIVFS (R221). -/
  | aluDivfs (h : Head) (d : Dest) (b : AluBits) (ob : OutSel) (qc : QCtl)
  /-- ALU.UNDEF.0o52 (R185). -/
  | aluUndef52 (h : Head) (d : Dest) (b : AluBits) (ob : OutSel) (qc : QCtl)
  /-- ALU.UNDEF.0o53 (R185). -/
  | aluUndef53 (h : Head) (d : Dest) (b : AluBits) (ob : OutSel) (qc : QCtl)
  /-- ALU.UNDEF.0o54 (R185). -/
  | aluUndef54 (h : Head) (d : Dest) (b : AluBits) (ob : OutSel) (qc : QCtl)
  /-- ALU.UNDEF.0o55 (R185). -/
  | aluUndef55 (h : Head) (d : Dest) (b : AluBits) (ob : OutSel) (qc : QCtl)
  /-- ALU.UNDEF.0o56 (R185). -/
  | aluUndef56 (h : Head) (d : Dest) (b : AluBits) (ob : OutSel) (qc : QCtl)
  /-- ALU.UNDEF.0o57 (R185). -/
  | aluUndef57 (h : Head) (d : Dest) (b : AluBits) (ob : OutSel) (qc : QCtl)
  /-- ALU.UNDEF.0o60 (R185). -/
  | aluUndef60 (h : Head) (d : Dest) (b : AluBits) (ob : OutSel) (qc : QCtl)
  /-- ALU.UNDEF.0o61 (R185). -/
  | aluUndef61 (h : Head) (d : Dest) (b : AluBits) (ob : OutSel) (qc : QCtl)
  /-- ALU.UNDEF.0o62 (R185). -/
  | aluUndef62 (h : Head) (d : Dest) (b : AluBits) (ob : OutSel) (qc : QCtl)
  /-- ALU.UNDEF.0o63 (R185). -/
  | aluUndef63 (h : Head) (d : Dest) (b : AluBits) (ob : OutSel) (qc : QCtl)
  /-- ALU.UNDEF.0o64 (R185). -/
  | aluUndef64 (h : Head) (d : Dest) (b : AluBits) (ob : OutSel) (qc : QCtl)
  /-- ALU.UNDEF.0o65 (R185). -/
  | aluUndef65 (h : Head) (d : Dest) (b : AluBits) (ob : OutSel) (qc : QCtl)
  /-- ALU.UNDEF.0o66 (R185). -/
  | aluUndef66 (h : Head) (d : Dest) (b : AluBits) (ob : OutSel) (qc : QCtl)
  /-- ALU.UNDEF.0o67 (R185). -/
  | aluUndef67 (h : Head) (d : Dest) (b : AluBits) (ob : OutSel) (qc : QCtl)
  /-- ALU.UNDEF.0o70 (R185). -/
  | aluUndef70 (h : Head) (d : Dest) (b : AluBits) (ob : OutSel) (qc : QCtl)
  /-- ALU.UNDEF.0o71 (R185). -/
  | aluUndef71 (h : Head) (d : Dest) (b : AluBits) (ob : OutSel) (qc : QCtl)
  /-- ALU.UNDEF.0o72 (R185). -/
  | aluUndef72 (h : Head) (d : Dest) (b : AluBits) (ob : OutSel) (qc : QCtl)
  /-- ALU.UNDEF.0o73 (R185). -/
  | aluUndef73 (h : Head) (d : Dest) (b : AluBits) (ob : OutSel) (qc : QCtl)
  /-- ALU.UNDEF.0o74 (R185). -/
  | aluUndef74 (h : Head) (d : Dest) (b : AluBits) (ob : OutSel) (qc : QCtl)
  /-- ALU.UNDEF.0o75 (R185). -/
  | aluUndef75 (h : Head) (d : Dest) (b : AluBits) (ob : OutSel) (qc : QCtl)
  /-- ALU.UNDEF.0o76 (R185). -/
  | aluUndef76 (h : Head) (d : Dest) (b : AluBits) (ob : OutSel) (qc : QCtl)
  /-- ALU.UNDEF.0o77 (R185). -/
  | aluUndef77 (h : Head) (d : Dest) (b : AluBits) (ob : OutSel) (qc : QCtl)
  /-- OB.UNDEF (R223). -/
  | obUndef (h : Head) (d : Dest) (b : AluBits) (fn : AluFn) (qc : QCtl)
  /-- OB.ALU (R224). -/
  | obAlu (h : Head) (d : Dest) (b : AluBits) (fn : AluFn) (qc : QCtl)
  /-- OB.R1 (R225). -/
  | obR1 (h : Head) (d : Dest) (b : AluBits) (fn : AluFn) (qc : QCtl)
  /-- OB.L1 (R226). -/
  | obL1 (h : Head) (d : Dest) (b : AluBits) (fn : AluFn) (qc : QCtl)
  /-- QC.NONE (R227). -/
  | qcNone (h : Head) (d : Dest) (b : AluBits) (fn : AluFn) (ob : OutSel)
  /-- QC.QL (R228). -/
  | qcQl (h : Head) (d : Dest) (b : AluBits) (fn : AluFn) (ob : OutSel)
  /-- QC.QR (R229). -/
  | qcQr (h : Head) (d : Dest) (b : AluBits) (fn : AluFn) (ob : OutSel)
  /-- QC.QLOAD (R230). -/
  | qcQload (h : Head) (d : Dest) (b : AluBits) (fn : AluFn) (ob : OutSel)
  /-- JUMP.NEVER (R243). -/
  | jumpNever (h : Head) (j : JumpBits) (misc : JMisc) (r : Bool) (p : Bool) (b43 : BitVec 2)
  /-- JUMP.LT (R244). -/
  | jumpLt (h : Head) (j : JumpBits) (misc : JMisc) (r : Bool) (p : Bool) (b43 : BitVec 2)
  /-- JUMP.LE (R245). -/
  | jumpLe (h : Head) (j : JumpBits) (misc : JMisc) (r : Bool) (p : Bool) (b43 : BitVec 2)
  /-- JUMP.EQ (R246). -/
  | jumpEq (h : Head) (j : JumpBits) (misc : JMisc) (r : Bool) (p : Bool) (b43 : BitVec 2)
  /-- JUMP.PF (R247). -/
  | jumpPf (h : Head) (j : JumpBits) (misc : JMisc) (r : Bool) (p : Bool) (b43 : BitVec 2)
  /-- JUMP.PFI (R248). -/
  | jumpPfi (h : Head) (j : JumpBits) (misc : JMisc) (r : Bool) (p : Bool) (b43 : BitVec 2)
  /-- JUMP.PFIS (R249). -/
  | jumpPfis (h : Head) (j : JumpBits) (misc : JMisc) (r : Bool) (p : Bool) (b43 : BitVec 2)
  /-- JUMP.ALWAYS (R250). -/
  | jumpAlways (h : Head) (j : JumpBits) (misc : JMisc) (r : Bool) (p : Bool) (b43 : BitVec 2)
  /-- JUMP.BIT (R251). -/
  | jumpBit (h : Head) (j : JumpBits) (misc : JMisc) (r : Bool) (p : Bool) (rot : BitVec 5)
  /-- JUMP.HALT (R252). -/
  | jumpHalt (h : Head) (j : JumpBits) (r : Bool) (p : Bool) (t : JTest)
  /-- JUMP.WRITE-UCODE (R257). -/
  | jumpWriteUcode (h : Head) (j : JumpBits) (misc : JMisc) (t : JTest)
  /-- JUMP.MISC2 (R259). -/
  | jumpMisc2 (h : Head) (j : JumpBits) (r : Bool) (p : Bool) (t : JTest)
  /-- JUMP.MISC3 (R259). -/
  | jumpMisc3 (h : Head) (j : JumpBits) (r : Bool) (p : Bool) (t : JTest)
  /-- DISPATCH (R270). -/
  | dispatch (h : Head) (b : DispBits)
  /-- DISPATCH.MISC1 (R108). -/
  | dispatchMisc1 (h : Head) (b : DispBits)
  /-- DISPATCH.WRITE (R281). -/
  | dispatchWrite (h : Head) (b : DispBits)
  /-- DISPATCH.POSMOD (R272). -/
  | dispatchPosmod (h : Head) (b : DispBits)
  /-- BYTE.UNDEF (R292). -/
  | byteUndef (h : Head) (d : Dest) (b : ByteBits)
  /-- BYTE.LDB (R293). -/
  | byteLdb (h : Head) (d : Dest) (b : ByteBits)
  /-- BYTE.SEL (R294). -/
  | byteSel (h : Head) (d : Dest) (b : ByteBits)
  /-- BYTE.DPB (R295). -/
  | byteDpb (h : Head) (d : Dest) (b : ByteBits)
  /-- POPJ (R142). -/
  | popj (g : Ignored) (src : MSrc) (body : Body)
  /-- MSRC.M (R152). -/
  | msrcM (a : BitVec 5) (g : Ignored) (pj : Bool) (body : Body)
  /-- MSRC.DISPATCH-CONSTANT (R154). -/
  | msrcDispatchConstant (g : Ignored) (pj : Bool) (body : Body)
  /-- MSRC.SPC-PTR-AND-DATA (R155). -/
  | msrcSpcPtrAndData (g : Ignored) (pj : Bool) (body : Body)
  /-- MSRC.PDL-POINTER (R156). -/
  | msrcPdlPointer (g : Ignored) (pj : Bool) (body : Body)
  /-- MSRC.PDL-INDEX (R157). -/
  | msrcPdlIndex (g : Ignored) (pj : Bool) (body : Body)
  /-- MSRC.UNDEF.0o04 (R168). -/
  | msrcUndef04 (g : Ignored) (pj : Bool) (body : Body)
  /-- MSRC.PDL-BUFFER-INDEX (R158). -/
  | msrcPdlBufferIndex (g : Ignored) (pj : Bool) (body : Body)
  /-- MSRC.OPC (R159). -/
  | msrcOpc (g : Ignored) (pj : Bool) (body : Body)
  /-- MSRC.Q (R160). -/
  | msrcQ (g : Ignored) (pj : Bool) (body : Body)
  /-- MSRC.VMA (R161). -/
  | msrcVma (g : Ignored) (pj : Bool) (body : Body)
  /-- MSRC.MAP-MD (R162). -/
  | msrcMapMd (g : Ignored) (pj : Bool) (body : Body)
  /-- MSRC.MD (R163). -/
  | msrcMd (g : Ignored) (pj : Bool) (body : Body)
  /-- MSRC.LC (R164). -/
  | msrcLc (g : Ignored) (pj : Bool) (body : Body)
  /-- MSRC.SPC-PTR-AND-DATA-POP (R165). -/
  | msrcSpcPtrAndDataPop (g : Ignored) (pj : Bool) (body : Body)
  /-- MSRC.UNDEF.0o15 (R168). -/
  | msrcUndef15 (g : Ignored) (pj : Bool) (body : Body)
  /-- MSRC.UNDEF.0o16 (R168). -/
  | msrcUndef16 (g : Ignored) (pj : Bool) (body : Body)
  /-- MSRC.UNDEF.0o17 (R168). -/
  | msrcUndef17 (g : Ignored) (pj : Bool) (body : Body)
  /-- MSRC.UNDEF.0o20 (R168). -/
  | msrcUndef20 (g : Ignored) (pj : Bool) (body : Body)
  /-- MSRC.UNDEF.0o21 (R168). -/
  | msrcUndef21 (g : Ignored) (pj : Bool) (body : Body)
  /-- MSRC.UNDEF.0o22 (R168). -/
  | msrcUndef22 (g : Ignored) (pj : Bool) (body : Body)
  /-- MSRC.UNDEF.0o23 (R168). -/
  | msrcUndef23 (g : Ignored) (pj : Bool) (body : Body)
  /-- MSRC.PDL-BUFFER-POINTER-POP (R166). -/
  | msrcPdlBufferPointerPop (g : Ignored) (pj : Bool) (body : Body)
  /-- MSRC.PDL-BUFFER-POINTER (R167). -/
  | msrcPdlBufferPointer (g : Ignored) (pj : Bool) (body : Body)
  /-- MSRC.UNDEF.0o26 (R168). -/
  | msrcUndef26 (g : Ignored) (pj : Bool) (body : Body)
  /-- MSRC.UNDEF.0o27 (R168). -/
  | msrcUndef27 (g : Ignored) (pj : Bool) (body : Body)
  /-- MSRC.UNDEF.0o30 (R168). -/
  | msrcUndef30 (g : Ignored) (pj : Bool) (body : Body)
  /-- MSRC.UNDEF.0o31 (R168). -/
  | msrcUndef31 (g : Ignored) (pj : Bool) (body : Body)
  /-- MSRC.UNDEF.0o32 (R168). -/
  | msrcUndef32 (g : Ignored) (pj : Bool) (body : Body)
  /-- MSRC.UNDEF.0o33 (R168). -/
  | msrcUndef33 (g : Ignored) (pj : Bool) (body : Body)
  /-- MSRC.UNDEF.0o34 (R168). -/
  | msrcUndef34 (g : Ignored) (pj : Bool) (body : Body)
  /-- MSRC.UNDEF.0o35 (R168). -/
  | msrcUndef35 (g : Ignored) (pj : Bool) (body : Body)
  /-- MSRC.UNDEF.0o36 (R168). -/
  | msrcUndef36 (g : Ignored) (pj : Bool) (body : Body)
  /-- MSRC.UNDEF.0o37 (R168). -/
  | msrcUndef37 (g : Ignored) (pj : Bool) (body : Body)
  /-- DEST.A (R301). -/
  | destA (b24 : Bool) (addr : BitVec 10) (h : Head) (op : BusOp)
  /-- DEST.NONE (R304). -/
  | destNone (ma : BitVec 5) (h : Head) (op : BusOp)
  /-- DEST.LC (R305). -/
  | destLc (ma : BitVec 5) (h : Head) (op : BusOp)
  /-- DEST.INTERRUPT-CONTROL (R306). -/
  | destInterruptControl (ma : BitVec 5) (h : Head) (op : BusOp)
  /-- DEST.UNDEF.0o03 (R323). -/
  | destUndef03 (ma : BitVec 5) (h : Head) (op : BusOp)
  /-- DEST.UNDEF.0o04 (R323). -/
  | destUndef04 (ma : BitVec 5) (h : Head) (op : BusOp)
  /-- DEST.UNDEF.0o05 (R323). -/
  | destUndef05 (ma : BitVec 5) (h : Head) (op : BusOp)
  /-- DEST.UNDEF.0o06 (R323). -/
  | destUndef06 (ma : BitVec 5) (h : Head) (op : BusOp)
  /-- DEST.UNDEF.0o07 (R323). -/
  | destUndef07 (ma : BitVec 5) (h : Head) (op : BusOp)
  /-- DEST.PDL-BY-POINTER (R307). -/
  | destPdlByPointer (ma : BitVec 5) (h : Head) (op : BusOp)
  /-- DEST.PDL-BY-POINTER-PUSH (R308). -/
  | destPdlByPointerPush (ma : BitVec 5) (h : Head) (op : BusOp)
  /-- DEST.PDL-BY-INDEX (R309). -/
  | destPdlByIndex (ma : BitVec 5) (h : Head) (op : BusOp)
  /-- DEST.PDL-INDEX (R310). -/
  | destPdlIndex (ma : BitVec 5) (h : Head) (op : BusOp)
  /-- DEST.PDL-POINTER (R311). -/
  | destPdlPointer (ma : BitVec 5) (h : Head) (op : BusOp)
  /-- DEST.SPC-PUSH (R312). -/
  | destSpcPush (ma : BitVec 5) (h : Head) (op : BusOp)
  /-- DEST.OA-LO (R313). -/
  | destOaLo (ma : BitVec 5) (h : Head) (op : BusOp)
  /-- DEST.OA-HI (R314). -/
  | destOaHi (ma : BitVec 5) (h : Head) (op : BusOp)
  /-- DEST.VMA (R315). -/
  | destVma (ma : BitVec 5) (h : Head) (op : BusOp)
  /-- DEST.VMA-START-READ (R316). -/
  | destVmaStartRead (ma : BitVec 5) (h : Head) (op : BusOp)
  /-- DEST.VMA-START-WRITE (R317). -/
  | destVmaStartWrite (ma : BitVec 5) (h : Head) (op : BusOp)
  /-- DEST.VMA-WRITE-MAP (R318). -/
  | destVmaWriteMap (ma : BitVec 5) (h : Head) (op : BusOp)
  /-- DEST.UNDEF.0o24 (R323). -/
  | destUndef24 (ma : BitVec 5) (h : Head) (op : BusOp)
  /-- DEST.UNDEF.0o25 (R323). -/
  | destUndef25 (ma : BitVec 5) (h : Head) (op : BusOp)
  /-- DEST.UNDEF.0o26 (R323). -/
  | destUndef26 (ma : BitVec 5) (h : Head) (op : BusOp)
  /-- DEST.UNDEF.0o27 (R323). -/
  | destUndef27 (ma : BitVec 5) (h : Head) (op : BusOp)
  /-- DEST.MD (R319). -/
  | destMd (ma : BitVec 5) (h : Head) (op : BusOp)
  /-- DEST.MD-START-READ (R320). -/
  | destMdStartRead (ma : BitVec 5) (h : Head) (op : BusOp)
  /-- DEST.MD-START-WRITE (R321). -/
  | destMdStartWrite (ma : BitVec 5) (h : Head) (op : BusOp)
  /-- DEST.MD-WRITE-MAP (R322). -/
  | destMdWriteMap (ma : BitVec 5) (h : Head) (op : BusOp)
  /-- DEST.UNDEF.0o34 (R323). -/
  | destUndef34 (ma : BitVec 5) (h : Head) (op : BusOp)
  /-- DEST.UNDEF.0o35 (R323). -/
  | destUndef35 (ma : BitVec 5) (h : Head) (op : BusOp)
  /-- DEST.UNDEF.0o36 (R323). -/
  | destUndef36 (ma : BitVec 5) (h : Head) (op : BusOp)
  /-- DEST.UNDEF.0o37 (R323). -/
  | destUndef37 (ma : BitVec 5) (h : Head) (op : BusOp)
  /-- DEST.UNDEF.RESERVED-BIT (R323). -/
  | destReserved (fd : BitVec 5) (ma : BitVec 5) (h : Head) (op : BusOp)
deriving DecidableEq, Repr

end Sys2Proof
end

