-- ==== Sys2Proof/WellFormed.lean ====
section
/-! DEFINITION. Which instructions are the decoder's own: a word of the ALU class with function SETZ has several
rows, and the decoder names it by one of them (log 1). `Instr.wf` says that an instruction is written with that row.
Every instruction of the classes JUMP, DISPATCH and BYTE, and every ALU instruction with another function than SETZ,
is named by its class row. -/

namespace Sys2Proof

/-- Destination NONE, with any M-memory address. -/
def Dest.isNone : Dest → Bool
  | .fn .none _ => true
  | _ => false

/-- Destination NONE with M-memory address 0: the destination field is all zero. -/
def Dest.isZero (d : Dest) : Bool := d == .fn .none 0

/-- A plain M-memory source. -/
def MSrc.isPlain : MSrc → Bool
  | .m _ => true
  | .fs _ => false

/-- One of the ignored bits 46 and 45, which take a word off the NOP fast path (R119), is set. -/
def Ignored.marks (g : Ignored) : Bool := g.stat || g.ilong

/-- The operation is the ALU function SETZ. -/
def BusOp.isSetz : BusOp → Bool
  | .alu op => op.fn == .setz
  | .byte _ => false

/-- The output selector is OB.UNDEF or OB.ALU. -/
def OutSel.isPlain (ob : OutSel) : Bool := ob == .undef || ob == .alu

/-- A SETZ operation without Q control and with a plain output selector. -/
def BusOp.isPlainSetz : BusOp → Bool
  | .alu op => op.fn == .setz && op.qc == .none && op.ob.isPlain
  | .byte _ => false

/-- The POPJ, DEST and functional MSRC rows do not apply: no POPJ, destination NONE, plain M-source. -/
def fieldsPlain (h : Head) (d : Dest) : Bool := !h.popj && d.isNone && h.src.isPlain

/-- No field row applies at all: no POPJ, an all-zero destination field and M-source `M[0]`. -/
def fieldsZero (h : Head) (d : Dest) : Bool := !h.popj && d.isZero && h.src == .m 0

/-- A well-formed JUMP of a condition row: no other row of the class claims the word. -/
def jumpRowWf (misc : JMisc) (r p : Bool) : Bool := misc == .none && !(r && p)

/-- A well-formed use of a functional-source row: SETZ, no POPJ, destination NONE. -/
def fsrcRowWf (pj : Bool) (body : Body) : Bool :=
  !pj && match body with
    | .bus op d => op.isSetz && d.isNone
    | _ => false

/-- The row an instruction is written with is the one the decoder names its word by. -/
def Instr.wf : Instr → Bool
  | .nop _ _ => true
  | .aluSetz h d b ob qc => fieldsZero h d && qc == .none && ob == .alu && !b.cin && b.asrc == 0 && b.misc == 0 &&
      (b.b9 || h.ign.marks)
  | .aluAnd _ _ _ _ _ => true
  | .aluAndca _ _ _ _ _ => true
  | .aluSetm _ _ _ _ _ => true
  | .aluAndcm _ _ _ _ _ => true
  | .aluSeta _ _ _ _ _ => true
  | .aluXor _ _ _ _ _ => true
  | .aluIor _ _ _ _ _ => true
  | .aluAndcb _ _ _ _ _ => true
  | .aluEqv _ _ _ _ _ => true
  | .aluSetca _ _ _ _ _ => true
  | .aluOrca _ _ _ _ _ => true
  | .aluSetcm _ _ _ _ _ => true
  | .aluOrcm _ _ _ _ _ => true
  | .aluOrcb _ _ _ _ _ => true
  | .aluSeto _ _ _ _ _ => true
  | .aluA20 _ _ _ _ _ => true
  | .aluA21 _ _ _ _ _ => true
  | .aluA22 _ _ _ _ _ => true
  | .aluA23 _ _ _ _ _ => true
  | .aluA24 _ _ _ _ _ => true
  | .aluA25 _ _ _ _ _ => true
  | .aluSub _ _ _ _ _ => true
  | .aluA27 _ _ _ _ _ => true
  | .aluA30 _ _ _ _ _ => true
  | .aluAdd _ _ _ _ _ => true
  | .aluA32 _ _ _ _ _ => true
  | .aluA33 _ _ _ _ _ => true
  | .aluIncm _ _ _ _ _ => true
  | .aluA35 _ _ _ _ _ => true
  | .aluA36 _ _ _ _ _ => true
  | .aluLshm _ _ _ _ _ => true
  | .aluMul _ _ _ _ _ => true
  | .aluDiv _ _ _ _ _ => true
  | .aluUndef42 _ _ _ _ _ => true
  | .aluUndef43 _ _ _ _ _ => true
  | .aluUndef44 _ _ _ _ _ => true
  | .aluDivrc _ _ _ _ _ => true
  | .aluUndef46 _ _ _ _ _ => true
  | .aluUndef47 _ _ _ _ _ => true
  | .aluUndef50 _ _ _ _ _ => true
  | .aluDivfs _ _ _ _ _ => true
  | .aluUndef52 _ _ _ _ _ => true
  | .aluUndef53 _ _ _ _ _ => true
  | .aluUndef54 _ _ _ _ _ => true
  | .aluUndef55 _ _ _ _ _ => true
  | .aluUndef56 _ _ _ _ _ => true
  | .aluUndef57 _ _ _ _ _ => true
  | .aluUndef60 _ _ _ _ _ => true
  | .aluUndef61 _ _ _ _ _ => true
  | .aluUndef62 _ _ _ _ _ => true
  | .aluUndef63 _ _ _ _ _ => true
  | .aluUndef64 _ _ _ _ _ => true
  | .aluUndef65 _ _ _ _ _ => true
  | .aluUndef66 _ _ _ _ _ => true
  | .aluUndef67 _ _ _ _ _ => true
  | .aluUndef70 _ _ _ _ _ => true
  | .aluUndef71 _ _ _ _ _ => true
  | .aluUndef72 _ _ _ _ _ => true
  | .aluUndef73 _ _ _ _ _ => true
  | .aluUndef74 _ _ _ _ _ => true
  | .aluUndef75 _ _ _ _ _ => true
  | .aluUndef76 _ _ _ _ _ => true
  | .aluUndef77 _ _ _ _ _ => true
  | .obUndef h d b fn qc => fn == .setz && fieldsZero h d && qc == .none &&
      (b.cin || b.asrc != 0 || b.misc != 0 || b.b9 || h.ign.marks)
  | .obAlu h d b fn qc => fn == .setz && fieldsZero h d && qc == .none && !b.cin && (b.asrc != 0 || b.misc != 0)
  | .obR1 h d _ fn qc => fn == .setz && fieldsPlain h d && qc == .none
  | .obL1 h d _ fn qc => fn == .setz && fieldsPlain h d && qc == .none
  | .qcNone h d b fn ob => fn == .setz && fieldsZero h d && ob == .alu && b.cin
  | .qcQl h d _ fn _ => fn == .setz && fieldsPlain h d
  | .qcQr h d _ fn _ => fn == .setz && fieldsPlain h d
  | .qcQload h d _ fn _ => fn == .setz && fieldsPlain h d
  | .jumpNever _ _ misc r p _ => jumpRowWf misc r p
  | .jumpLt _ _ misc r p _ => jumpRowWf misc r p
  | .jumpLe _ _ misc r p _ => jumpRowWf misc r p
  | .jumpEq _ _ misc r p _ => jumpRowWf misc r p
  | .jumpPf _ _ misc r p _ => jumpRowWf misc r p
  | .jumpPfi _ _ misc r p _ => jumpRowWf misc r p
  | .jumpPfis _ _ misc r p _ => jumpRowWf misc r p
  | .jumpAlways _ _ misc r p _ => jumpRowWf misc r p
  | .jumpBit _ _ misc r p _ => jumpRowWf misc r p
  | .jumpHalt _ _ _ _ _ => true
  | .jumpWriteUcode _ _ misc _ => misc == .none
  | .jumpMisc2 _ _ _ _ _ => true
  | .jumpMisc3 _ _ _ _ _ => true
  | .dispatch _ _ => true
  | .dispatchMisc1 _ _ => true
  | .dispatchWrite _ _ => true
  | .dispatchPosmod _ _ => true
  | .byteUndef _ _ _ => true
  | .byteLdb _ _ _ => true
  | .byteSel _ _ _ => true
  | .byteDpb _ _ _ => true
  | .popj _ _ body => match body with
    | .bus op _ => op.isSetz
    | _ => false
  | .msrcM a _ pj body => !pj && a != 0 && match body with
    | .bus op d => op.isPlainSetz && d.isNone
    | _ => false
  | .msrcDispatchConstant _ pj body => fsrcRowWf pj body
  | .msrcSpcPtrAndData _ pj body => fsrcRowWf pj body
  | .msrcPdlPointer _ pj body => fsrcRowWf pj body
  | .msrcPdlIndex _ pj body => fsrcRowWf pj body
  | .msrcUndef04 _ pj body => fsrcRowWf pj body
  | .msrcPdlBufferIndex _ pj body => fsrcRowWf pj body
  | .msrcOpc _ pj body => fsrcRowWf pj body
  | .msrcQ _ pj body => fsrcRowWf pj body
  | .msrcVma _ pj body => fsrcRowWf pj body
  | .msrcMapMd _ pj body => fsrcRowWf pj body
  | .msrcMd _ pj body => fsrcRowWf pj body
  | .msrcLc _ pj body => fsrcRowWf pj body
  | .msrcSpcPtrAndDataPop _ pj body => fsrcRowWf pj body
  | .msrcUndef15 _ pj body => fsrcRowWf pj body
  | .msrcUndef16 _ pj body => fsrcRowWf pj body
  | .msrcUndef17 _ pj body => fsrcRowWf pj body
  | .msrcUndef20 _ pj body => fsrcRowWf pj body
  | .msrcUndef21 _ pj body => fsrcRowWf pj body
  | .msrcUndef22 _ pj body => fsrcRowWf pj body
  | .msrcUndef23 _ pj body => fsrcRowWf pj body
  | .msrcPdlBufferPointerPop _ pj body => fsrcRowWf pj body
  | .msrcPdlBufferPointer _ pj body => fsrcRowWf pj body
  | .msrcUndef26 _ pj body => fsrcRowWf pj body
  | .msrcUndef27 _ pj body => fsrcRowWf pj body
  | .msrcUndef30 _ pj body => fsrcRowWf pj body
  | .msrcUndef31 _ pj body => fsrcRowWf pj body
  | .msrcUndef32 _ pj body => fsrcRowWf pj body
  | .msrcUndef33 _ pj body => fsrcRowWf pj body
  | .msrcUndef34 _ pj body => fsrcRowWf pj body
  | .msrcUndef35 _ pj body => fsrcRowWf pj body
  | .msrcUndef36 _ pj body => fsrcRowWf pj body
  | .msrcUndef37 _ pj body => fsrcRowWf pj body
  | .destA _ _ h op => op.isSetz && !h.popj
  | .destNone ma h op => op.isPlainSetz && !h.popj && h.src == .m 0 && ma != 0
  | .destLc _ h op => op.isSetz && !h.popj
  | .destInterruptControl _ h op => op.isSetz && !h.popj
  | .destUndef03 _ h op => op.isSetz && !h.popj
  | .destUndef04 _ h op => op.isSetz && !h.popj
  | .destUndef05 _ h op => op.isSetz && !h.popj
  | .destUndef06 _ h op => op.isSetz && !h.popj
  | .destUndef07 _ h op => op.isSetz && !h.popj
  | .destPdlByPointer _ h op => op.isSetz && !h.popj
  | .destPdlByPointerPush _ h op => op.isSetz && !h.popj
  | .destPdlByIndex _ h op => op.isSetz && !h.popj
  | .destPdlIndex _ h op => op.isSetz && !h.popj
  | .destPdlPointer _ h op => op.isSetz && !h.popj
  | .destSpcPush _ h op => op.isSetz && !h.popj
  | .destOaLo _ h op => op.isSetz && !h.popj
  | .destOaHi _ h op => op.isSetz && !h.popj
  | .destVma _ h op => op.isSetz && !h.popj
  | .destVmaStartRead _ h op => op.isSetz && !h.popj
  | .destVmaStartWrite _ h op => op.isSetz && !h.popj
  | .destVmaWriteMap _ h op => op.isSetz && !h.popj
  | .destUndef24 _ h op => op.isSetz && !h.popj
  | .destUndef25 _ h op => op.isSetz && !h.popj
  | .destUndef26 _ h op => op.isSetz && !h.popj
  | .destUndef27 _ h op => op.isSetz && !h.popj
  | .destMd _ h op => op.isSetz && !h.popj
  | .destMdStartRead _ h op => op.isSetz && !h.popj
  | .destMdStartWrite _ h op => op.isSetz && !h.popj
  | .destMdWriteMap _ h op => op.isSetz && !h.popj
  | .destUndef34 _ h op => op.isSetz && !h.popj
  | .destUndef35 _ h op => op.isSetz && !h.popj
  | .destUndef36 _ h op => op.isSetz && !h.popj
  | .destUndef37 _ h op => op.isSetz && !h.popj
  | .destReserved _ _ h op => op.isSetz && !h.popj

end Sys2Proof
end

