-- ==== Sys2Proof/Decode.lean ====
section
/-! DEFINITION. From the bits of a microword to an instruction and back (R100 to R120).

`parse` and `pack` go between the 48 bits and the fields of R101 to R106; `Micro.name` chooses the row of the opcode
table a word is named by, `Instr.micro` forgets it. The decoder is total: no encoding traps (R120, R143). -/

namespace Sys2Proof

/-- `NOP_MASK`: every bit 46..0 but bit 12 (R118, D22). -/
def nopMask : Microword := 0x7FFFFFFFEFFF

/-- The NOP test of R118, made before class decode (R139). -/
def isNop (w : Microword) : Bool := w &&& nopMask == 0

/-! ### Code tables, in the order of the code numbers -/

/-- ALU functions by code number (R110). -/
def aluFnTable : List AluFn :=
  [.setz, .and, .andca, .setm, .andcm, .seta, .xor, .ior, .andcb, .eqv, .setca, .orca, .setcm, .orcm,
   .orcb, .seto, .a20, .a21, .a22, .a23, .a24, .a25, .sub, .a27, .a30, .add, .a32, .a33, .incm, .a35,
   .a36, .lshm, .mul, .div, .undef42, .undef43, .undef44, .divrc, .undef46, .undef47, .undef50,
   .divfs, .undef52, .undef53, .undef54, .undef55, .undef56, .undef57, .undef60, .undef61, .undef62,
   .undef63, .undef64, .undef65, .undef66, .undef67, .undef70, .undef71, .undef72, .undef73, .undef74,
   .undef75, .undef76, .undef77]

/-- Code number of a AluFn. -/
def AluFn.code : AluFn → BitVec 6
  | .setz => 0o0
  | .and => 0o1
  | .andca => 0o2
  | .setm => 0o3
  | .andcm => 0o4
  | .seta => 0o5
  | .xor => 0o6
  | .ior => 0o7
  | .andcb => 0o10
  | .eqv => 0o11
  | .setca => 0o12
  | .orca => 0o13
  | .setcm => 0o14
  | .orcm => 0o15
  | .orcb => 0o16
  | .seto => 0o17
  | .a20 => 0o20
  | .a21 => 0o21
  | .a22 => 0o22
  | .a23 => 0o23
  | .a24 => 0o24
  | .a25 => 0o25
  | .sub => 0o26
  | .a27 => 0o27
  | .a30 => 0o30
  | .add => 0o31
  | .a32 => 0o32
  | .a33 => 0o33
  | .incm => 0o34
  | .a35 => 0o35
  | .a36 => 0o36
  | .lshm => 0o37
  | .mul => 0o40
  | .div => 0o41
  | .undef42 => 0o42
  | .undef43 => 0o43
  | .undef44 => 0o44
  | .divrc => 0o45
  | .undef46 => 0o46
  | .undef47 => 0o47
  | .undef50 => 0o50
  | .divfs => 0o51
  | .undef52 => 0o52
  | .undef53 => 0o53
  | .undef54 => 0o54
  | .undef55 => 0o55
  | .undef56 => 0o56
  | .undef57 => 0o57
  | .undef60 => 0o60
  | .undef61 => 0o61
  | .undef62 => 0o62
  | .undef63 => 0o63
  | .undef64 => 0o64
  | .undef65 => 0o65
  | .undef66 => 0o66
  | .undef67 => 0o67
  | .undef70 => 0o70
  | .undef71 => 0o71
  | .undef72 => 0o72
  | .undef73 => 0o73
  | .undef74 => 0o74
  | .undef75 => 0o75
  | .undef76 => 0o76
  | .undef77 => 0o77

/-- The AluFn of a code number. -/
def AluFn.ofCode (c : BitVec 6) : AluFn := aluFnTable.getD c.toNat .undef77

/-- Output selectors by code number (R111). -/
def outSelTable : List OutSel :=
  [.undef, .alu, .r1, .l1]

/-- Code number of a OutSel. -/
def OutSel.code : OutSel → BitVec 2
  | .undef => 0
  | .alu => 1
  | .r1 => 2
  | .l1 => 3

/-- The OutSel of a code number. -/
def OutSel.ofCode (c : BitVec 2) : OutSel := outSelTable.getD c.toNat .l1

/-- Q controls by code number (R111). -/
def qCtlTable : List QCtl :=
  [.none, .ql, .qr, .qload]

/-- Code number of a QCtl. -/
def QCtl.code : QCtl → BitVec 2
  | .none => 0
  | .ql => 1
  | .qr => 2
  | .qload => 3

/-- The QCtl of a code number. -/
def QCtl.ofCode (c : BitVec 2) : QCtl := qCtlTable.getD c.toNat .qload

/-- Jump conditions by code number (R112). -/
def jCondTable : List JCond :=
  [.never, .lt, .le, .eq, .pf, .pfi, .pfis, .always]

/-- Code number of a JCond. -/
def JCond.code : JCond → BitVec 3
  | .never => 0
  | .lt => 1
  | .le => 2
  | .eq => 3
  | .pf => 4
  | .pfi => 5
  | .pfis => 6
  | .always => 7

/-- The JCond of a code number. -/
def JCond.ofCode (c : BitVec 3) : JCond := jCondTable.getD c.toNat .always

/-- `MISC` of the JUMP class by value (R108). -/
def jMiscTable : List JMisc :=
  [.none, .halt, .misc2, .misc3]

/-- Code number of a JMisc. -/
def JMisc.code : JMisc → BitVec 2
  | .none => 0
  | .halt => 1
  | .misc2 => 2
  | .misc3 => 3

/-- The JMisc of a code number. -/
def JMisc.ofCode (c : BitVec 2) : JMisc := jMiscTable.getD c.toNat .misc3

/-- `MISC` of the DISPATCH class by value (R108). -/
def dispKindTable : List DispKind :=
  [.normal, .misc1, .write, .posmod]

/-- Code number of a DispKind. -/
def DispKind.code : DispKind → BitVec 2
  | .normal => 0
  | .misc1 => 1
  | .write => 2
  | .posmod => 3

/-- The DispKind of a code number. -/
def DispKind.ofCode (c : BitVec 2) : DispKind := dispKindTable.getD c.toNat .posmod

/-- Byte operations by code number (R114). -/
def byteFnTable : List ByteFn :=
  [.undef, .ldb, .sel, .dpb]

/-- Code number of a ByteFn. -/
def ByteFn.code : ByteFn → BitVec 2
  | .undef => 0
  | .ldb => 1
  | .sel => 2
  | .dpb => 3

/-- The ByteFn of a code number. -/
def ByteFn.ofCode (c : BitVec 2) : ByteFn := byteFnTable.getD c.toNat .dpb

/-- Functional sources by code number (R115). -/
def fSrcTable : List FSrc :=
  [.dispatchConstant, .spcPtrAndData, .pdlPointer, .pdlIndex, .undef04, .pdlBufferIndex, .opc, .q,
   .vma, .mapMd, .md, .lc, .spcPtrAndDataPop, .undef15, .undef16, .undef17, .undef20, .undef21,
   .undef22, .undef23, .pdlBufferPointerPop, .pdlBufferPointer, .undef26, .undef27, .undef30,
   .undef31, .undef32, .undef33, .undef34, .undef35, .undef36, .undef37]

/-- Code number of a FSrc. -/
def FSrc.code : FSrc → BitVec 5
  | .dispatchConstant => 0o0
  | .spcPtrAndData => 0o1
  | .pdlPointer => 0o2
  | .pdlIndex => 0o3
  | .undef04 => 0o4
  | .pdlBufferIndex => 0o5
  | .opc => 0o6
  | .q => 0o7
  | .vma => 0o10
  | .mapMd => 0o11
  | .md => 0o12
  | .lc => 0o13
  | .spcPtrAndDataPop => 0o14
  | .undef15 => 0o15
  | .undef16 => 0o16
  | .undef17 => 0o17
  | .undef20 => 0o20
  | .undef21 => 0o21
  | .undef22 => 0o22
  | .undef23 => 0o23
  | .pdlBufferPointerPop => 0o24
  | .pdlBufferPointer => 0o25
  | .undef26 => 0o26
  | .undef27 => 0o27
  | .undef30 => 0o30
  | .undef31 => 0o31
  | .undef32 => 0o32
  | .undef33 => 0o33
  | .undef34 => 0o34
  | .undef35 => 0o35
  | .undef36 => 0o36
  | .undef37 => 0o37

/-- The FSrc of a code number. -/
def FSrc.ofCode (c : BitVec 5) : FSrc := fSrcTable.getD c.toNat .undef37

/-- Functional destinations by code number (R116). -/
def fDestTable : List FDest :=
  [.none, .lc, .interruptControl, .undef03, .undef04, .undef05, .undef06, .undef07, .pdlByPointer,
   .pdlByPointerPush, .pdlByIndex, .pdlIndex, .pdlPointer, .spcPush, .oaLo, .oaHi, .vma,
   .vmaStartRead, .vmaStartWrite, .vmaWriteMap, .undef24, .undef25, .undef26, .undef27, .md,
   .mdStartRead, .mdStartWrite, .mdWriteMap, .undef34, .undef35, .undef36, .undef37]

/-- Code number of a FDest. -/
def FDest.code : FDest → BitVec 5
  | .none => 0o0
  | .lc => 0o1
  | .interruptControl => 0o2
  | .undef03 => 0o3
  | .undef04 => 0o4
  | .undef05 => 0o5
  | .undef06 => 0o6
  | .undef07 => 0o7
  | .pdlByPointer => 0o10
  | .pdlByPointerPush => 0o11
  | .pdlByIndex => 0o12
  | .pdlIndex => 0o13
  | .pdlPointer => 0o14
  | .spcPush => 0o15
  | .oaLo => 0o16
  | .oaHi => 0o17
  | .vma => 0o20
  | .vmaStartRead => 0o21
  | .vmaStartWrite => 0o22
  | .vmaWriteMap => 0o23
  | .undef24 => 0o24
  | .undef25 => 0o25
  | .undef26 => 0o26
  | .undef27 => 0o27
  | .md => 0o30
  | .mdStartRead => 0o31
  | .mdStartWrite => 0o32
  | .mdWriteMap => 0o33
  | .undef34 => 0o34
  | .undef35 => 0o35
  | .undef36 => 0o36
  | .undef37 => 0o37

/-- The FDest of a code number. -/
def FDest.ofCode (c : BitVec 5) : FDest := fDestTable.getD c.toNat .undef37

/-! ### Fields to bits -/

/-- Bit `i` of a word, as a Boolean. -/
def bitAt (w : Microword) (i : Nat) : Bool := w.getLsbD i

/-- One bit. -/
def bit1 (b : Bool) : BitVec 1 := BitVec.ofBool b

/-- The M-source field `IR[31:26]` (R107). -/
def MSrc.pack : MSrc → BitVec 6
  | .m a => 0#1 ++ a
  | .fs f => 1#1 ++ f.code

/-- The destination field `IR[25:14]` (R106). -/
def Dest.pack : Dest → BitVec 12
  | .a b24 addr => 1#1 ++ bit1 b24 ++ addr
  | .fn f m => 0#2 ++ f.code ++ m
  | .reserved fd m => 1#2 ++ fd ++ m

/-- The test field `IR[5:0]` of a JUMP (R103). -/
def JTest.pack : JTest → BitVec 6
  | .table c b43 => 1#1 ++ b43 ++ c.code
  | .bit rot => 0#1 ++ rot

/-- The class number `IR[44:43]` (R109). -/
def Body.cls : Body → BitVec 2
  | .bus (.alu _) _ => 0
  | .jump _ => 1
  | .disp _ => 2
  | .bus (.byte _) _ => 3

/-- `IR[41:32]`: `ASRC`, or `DCONST` of a DISPATCH (R101, R104). -/
def Body.high : Body → BitVec 10
  | .bus (.alu op) _ => op.bits.asrc
  | .jump op => op.bits.asrc
  | .disp op => op.bits.dconst
  | .bus (.byte op) _ => op.bits.asrc

/-- `IR[25:0]` of each class (R102 to R105). -/
def Body.low : Body → BitVec 26
  | .bus (.alu op) d =>
    d.pack ++ op.ob.code ++ op.bits.misc ++ bit1 op.bits.b9 ++ op.fn.code ++ bit1 op.bits.cin ++ op.qc.code
  | .jump op =>
    op.bits.jaddr ++ op.misc.code ++ bit1 op.r ++ bit1 op.p ++ bit1 op.bits.n ++ bit1 op.bits.inv ++ op.test.pack
  | .disp op =>
    bit1 op.bits.nplus1 ++ bit1 op.bits.ish ++ bit1 op.bits.b23 ++ op.bits.daddr ++ op.kind.code ++ op.bits.dmap ++
      op.bits.dlen ++ op.bits.drot
  | .bus (.byte op) d =>
    d.pack ++ op.fn.code ++ op.bits.misc ++ op.bits.widm1 ++ op.bits.brot

/-- The 48 bits of a word with these fields (R101). -/
def Micro.pack (w : Micro) : Microword :=
  bit1 w.head.ign.b47 ++ bit1 w.head.ign.stat ++ bit1 w.head.ign.ilong ++ w.body.cls ++ bit1 w.head.popj ++
    w.body.high ++ w.head.src.pack ++ w.body.low

/-! ### Bits to fields -/

/-- The M-source of a field value (R107). -/
def MSrc.parse (v : BitVec 6) : MSrc :=
  if v.getLsbD 5 then .fs (.ofCode (v.extractLsb' 0 5)) else .m (v.extractLsb' 0 5)

/-- The destination of a field value (R106). -/
def Dest.parse (v : BitVec 12) : Dest :=
  if v.getLsbD 11 then .a (v.getLsbD 10) (v.extractLsb' 0 10)
  else if v.getLsbD 10 then .reserved (v.extractLsb' 5 5) (v.extractLsb' 0 5)
  else .fn (.ofCode (v.extractLsb' 5 5)) (v.extractLsb' 0 5)

/-- The test of a field value (R103). -/
def JTest.parse (v : BitVec 6) : JTest :=
  if v.getLsbD 5 then .table (.ofCode (v.extractLsb' 0 3)) (v.extractLsb' 3 2) else .bit (v.extractLsb' 0 5)

/-- The class part from the class number, `IR[41:32]` and `IR[25:0]` (R102 to R105). -/
def Body.parse (cls : BitVec 2) (high : BitVec 10) (low : BitVec 26) : Body :=
  let dest := Dest.parse (low.extractLsb' 14 12)
  let misc := low.extractLsb' 10 2
  match cls.toNat with
  | 0 =>
    .bus (.alu ⟨.ofCode (low.extractLsb' 3 6), .ofCode (low.extractLsb' 12 2), .ofCode (low.extractLsb' 0 2),
      ⟨high, misc, low.getLsbD 9, low.getLsbD 2⟩⟩) dest
  | 1 =>
    .jump ⟨.ofCode misc, low.getLsbD 9, low.getLsbD 8, JTest.parse (low.extractLsb' 0 6),
      ⟨high, low.extractLsb' 12 14, low.getLsbD 7, low.getLsbD 6⟩⟩
  | 2 =>
    .disp ⟨.ofCode misc, ⟨high, low.getLsbD 25, low.getLsbD 24, low.getLsbD 23, low.extractLsb' 12 11,
      low.extractLsb' 8 2, low.extractLsb' 5 3, low.extractLsb' 0 5⟩⟩
  | _ =>
    .bus (.byte ⟨.ofCode (low.extractLsb' 12 2), ⟨high, misc, low.extractLsb' 5 5, low.extractLsb' 0 5⟩⟩) dest

/-- The fields of a word (R101). -/
def Micro.parse (w : Microword) : Micro :=
  ⟨⟨⟨bitAt w 47, bitAt w 46, bitAt w 45⟩, bitAt w 42, MSrc.parse (w.extractLsb' 26 6)⟩,
    Body.parse (w.extractLsb' 43 2) (w.extractLsb' 32 10) (w.extractLsb' 0 26)⟩

/-! ### The row a word is named by (log 1) -/

/-- The fields an instruction stands for (a NOP stands for a word that is not decoded: it has the fields of that
word, and execution never looks at them, R139). -/
def Instr.micro : Instr → Micro
  | .nop b47 b12 => ⟨⟨⟨b47, false, false⟩, false, .m 0⟩,
      .bus (.alu ⟨.setz, if b12 then .alu else .undef, .none, ⟨0, 0, false, false⟩⟩) (.fn .none 0)⟩
  | .aluSetz h d b ob qc => ⟨h, .bus (.alu ⟨.setz, ob, qc, b⟩) d⟩
  | .aluAnd h d b ob qc => ⟨h, .bus (.alu ⟨.and, ob, qc, b⟩) d⟩
  | .aluAndca h d b ob qc => ⟨h, .bus (.alu ⟨.andca, ob, qc, b⟩) d⟩
  | .aluSetm h d b ob qc => ⟨h, .bus (.alu ⟨.setm, ob, qc, b⟩) d⟩
  | .aluAndcm h d b ob qc => ⟨h, .bus (.alu ⟨.andcm, ob, qc, b⟩) d⟩
  | .aluSeta h d b ob qc => ⟨h, .bus (.alu ⟨.seta, ob, qc, b⟩) d⟩
  | .aluXor h d b ob qc => ⟨h, .bus (.alu ⟨.xor, ob, qc, b⟩) d⟩
  | .aluIor h d b ob qc => ⟨h, .bus (.alu ⟨.ior, ob, qc, b⟩) d⟩
  | .aluAndcb h d b ob qc => ⟨h, .bus (.alu ⟨.andcb, ob, qc, b⟩) d⟩
  | .aluEqv h d b ob qc => ⟨h, .bus (.alu ⟨.eqv, ob, qc, b⟩) d⟩
  | .aluSetca h d b ob qc => ⟨h, .bus (.alu ⟨.setca, ob, qc, b⟩) d⟩
  | .aluOrca h d b ob qc => ⟨h, .bus (.alu ⟨.orca, ob, qc, b⟩) d⟩
  | .aluSetcm h d b ob qc => ⟨h, .bus (.alu ⟨.setcm, ob, qc, b⟩) d⟩
  | .aluOrcm h d b ob qc => ⟨h, .bus (.alu ⟨.orcm, ob, qc, b⟩) d⟩
  | .aluOrcb h d b ob qc => ⟨h, .bus (.alu ⟨.orcb, ob, qc, b⟩) d⟩
  | .aluSeto h d b ob qc => ⟨h, .bus (.alu ⟨.seto, ob, qc, b⟩) d⟩
  | .aluA20 h d b ob qc => ⟨h, .bus (.alu ⟨.a20, ob, qc, b⟩) d⟩
  | .aluA21 h d b ob qc => ⟨h, .bus (.alu ⟨.a21, ob, qc, b⟩) d⟩
  | .aluA22 h d b ob qc => ⟨h, .bus (.alu ⟨.a22, ob, qc, b⟩) d⟩
  | .aluA23 h d b ob qc => ⟨h, .bus (.alu ⟨.a23, ob, qc, b⟩) d⟩
  | .aluA24 h d b ob qc => ⟨h, .bus (.alu ⟨.a24, ob, qc, b⟩) d⟩
  | .aluA25 h d b ob qc => ⟨h, .bus (.alu ⟨.a25, ob, qc, b⟩) d⟩
  | .aluSub h d b ob qc => ⟨h, .bus (.alu ⟨.sub, ob, qc, b⟩) d⟩
  | .aluA27 h d b ob qc => ⟨h, .bus (.alu ⟨.a27, ob, qc, b⟩) d⟩
  | .aluA30 h d b ob qc => ⟨h, .bus (.alu ⟨.a30, ob, qc, b⟩) d⟩
  | .aluAdd h d b ob qc => ⟨h, .bus (.alu ⟨.add, ob, qc, b⟩) d⟩
  | .aluA32 h d b ob qc => ⟨h, .bus (.alu ⟨.a32, ob, qc, b⟩) d⟩
  | .aluA33 h d b ob qc => ⟨h, .bus (.alu ⟨.a33, ob, qc, b⟩) d⟩
  | .aluIncm h d b ob qc => ⟨h, .bus (.alu ⟨.incm, ob, qc, b⟩) d⟩
  | .aluA35 h d b ob qc => ⟨h, .bus (.alu ⟨.a35, ob, qc, b⟩) d⟩
  | .aluA36 h d b ob qc => ⟨h, .bus (.alu ⟨.a36, ob, qc, b⟩) d⟩
  | .aluLshm h d b ob qc => ⟨h, .bus (.alu ⟨.lshm, ob, qc, b⟩) d⟩
  | .aluMul h d b ob qc => ⟨h, .bus (.alu ⟨.mul, ob, qc, b⟩) d⟩
  | .aluDiv h d b ob qc => ⟨h, .bus (.alu ⟨.div, ob, qc, b⟩) d⟩
  | .aluUndef42 h d b ob qc => ⟨h, .bus (.alu ⟨.undef42, ob, qc, b⟩) d⟩
  | .aluUndef43 h d b ob qc => ⟨h, .bus (.alu ⟨.undef43, ob, qc, b⟩) d⟩
  | .aluUndef44 h d b ob qc => ⟨h, .bus (.alu ⟨.undef44, ob, qc, b⟩) d⟩
  | .aluDivrc h d b ob qc => ⟨h, .bus (.alu ⟨.divrc, ob, qc, b⟩) d⟩
  | .aluUndef46 h d b ob qc => ⟨h, .bus (.alu ⟨.undef46, ob, qc, b⟩) d⟩
  | .aluUndef47 h d b ob qc => ⟨h, .bus (.alu ⟨.undef47, ob, qc, b⟩) d⟩
  | .aluUndef50 h d b ob qc => ⟨h, .bus (.alu ⟨.undef50, ob, qc, b⟩) d⟩
  | .aluDivfs h d b ob qc => ⟨h, .bus (.alu ⟨.divfs, ob, qc, b⟩) d⟩
  | .aluUndef52 h d b ob qc => ⟨h, .bus (.alu ⟨.undef52, ob, qc, b⟩) d⟩
  | .aluUndef53 h d b ob qc => ⟨h, .bus (.alu ⟨.undef53, ob, qc, b⟩) d⟩
  | .aluUndef54 h d b ob qc => ⟨h, .bus (.alu ⟨.undef54, ob, qc, b⟩) d⟩
  | .aluUndef55 h d b ob qc => ⟨h, .bus (.alu ⟨.undef55, ob, qc, b⟩) d⟩
  | .aluUndef56 h d b ob qc => ⟨h, .bus (.alu ⟨.undef56, ob, qc, b⟩) d⟩
  | .aluUndef57 h d b ob qc => ⟨h, .bus (.alu ⟨.undef57, ob, qc, b⟩) d⟩
  | .aluUndef60 h d b ob qc => ⟨h, .bus (.alu ⟨.undef60, ob, qc, b⟩) d⟩
  | .aluUndef61 h d b ob qc => ⟨h, .bus (.alu ⟨.undef61, ob, qc, b⟩) d⟩
  | .aluUndef62 h d b ob qc => ⟨h, .bus (.alu ⟨.undef62, ob, qc, b⟩) d⟩
  | .aluUndef63 h d b ob qc => ⟨h, .bus (.alu ⟨.undef63, ob, qc, b⟩) d⟩
  | .aluUndef64 h d b ob qc => ⟨h, .bus (.alu ⟨.undef64, ob, qc, b⟩) d⟩
  | .aluUndef65 h d b ob qc => ⟨h, .bus (.alu ⟨.undef65, ob, qc, b⟩) d⟩
  | .aluUndef66 h d b ob qc => ⟨h, .bus (.alu ⟨.undef66, ob, qc, b⟩) d⟩
  | .aluUndef67 h d b ob qc => ⟨h, .bus (.alu ⟨.undef67, ob, qc, b⟩) d⟩
  | .aluUndef70 h d b ob qc => ⟨h, .bus (.alu ⟨.undef70, ob, qc, b⟩) d⟩
  | .aluUndef71 h d b ob qc => ⟨h, .bus (.alu ⟨.undef71, ob, qc, b⟩) d⟩
  | .aluUndef72 h d b ob qc => ⟨h, .bus (.alu ⟨.undef72, ob, qc, b⟩) d⟩
  | .aluUndef73 h d b ob qc => ⟨h, .bus (.alu ⟨.undef73, ob, qc, b⟩) d⟩
  | .aluUndef74 h d b ob qc => ⟨h, .bus (.alu ⟨.undef74, ob, qc, b⟩) d⟩
  | .aluUndef75 h d b ob qc => ⟨h, .bus (.alu ⟨.undef75, ob, qc, b⟩) d⟩
  | .aluUndef76 h d b ob qc => ⟨h, .bus (.alu ⟨.undef76, ob, qc, b⟩) d⟩
  | .aluUndef77 h d b ob qc => ⟨h, .bus (.alu ⟨.undef77, ob, qc, b⟩) d⟩
  | .obUndef h d b fn qc => ⟨h, .bus (.alu ⟨fn, .undef, qc, b⟩) d⟩
  | .obAlu h d b fn qc => ⟨h, .bus (.alu ⟨fn, .alu, qc, b⟩) d⟩
  | .obR1 h d b fn qc => ⟨h, .bus (.alu ⟨fn, .r1, qc, b⟩) d⟩
  | .obL1 h d b fn qc => ⟨h, .bus (.alu ⟨fn, .l1, qc, b⟩) d⟩
  | .qcNone h d b fn ob => ⟨h, .bus (.alu ⟨fn, ob, .none, b⟩) d⟩
  | .qcQl h d b fn ob => ⟨h, .bus (.alu ⟨fn, ob, .ql, b⟩) d⟩
  | .qcQr h d b fn ob => ⟨h, .bus (.alu ⟨fn, ob, .qr, b⟩) d⟩
  | .qcQload h d b fn ob => ⟨h, .bus (.alu ⟨fn, ob, .qload, b⟩) d⟩
  | .jumpNever h j misc r p b43 => ⟨h, .jump ⟨misc, r, p, .table .never b43, j⟩⟩
  | .jumpLt h j misc r p b43 => ⟨h, .jump ⟨misc, r, p, .table .lt b43, j⟩⟩
  | .jumpLe h j misc r p b43 => ⟨h, .jump ⟨misc, r, p, .table .le b43, j⟩⟩
  | .jumpEq h j misc r p b43 => ⟨h, .jump ⟨misc, r, p, .table .eq b43, j⟩⟩
  | .jumpPf h j misc r p b43 => ⟨h, .jump ⟨misc, r, p, .table .pf b43, j⟩⟩
  | .jumpPfi h j misc r p b43 => ⟨h, .jump ⟨misc, r, p, .table .pfi b43, j⟩⟩
  | .jumpPfis h j misc r p b43 => ⟨h, .jump ⟨misc, r, p, .table .pfis b43, j⟩⟩
  | .jumpAlways h j misc r p b43 => ⟨h, .jump ⟨misc, r, p, .table .always b43, j⟩⟩
  | .jumpBit h j misc r p rot => ⟨h, .jump ⟨misc, r, p, .bit rot, j⟩⟩
  | .jumpHalt h j r p t => ⟨h, .jump ⟨.halt, r, p, t, j⟩⟩
  | .jumpWriteUcode h j misc t => ⟨h, .jump ⟨misc, true, true, t, j⟩⟩
  | .jumpMisc2 h j r p t => ⟨h, .jump ⟨.misc2, r, p, t, j⟩⟩
  | .jumpMisc3 h j r p t => ⟨h, .jump ⟨.misc3, r, p, t, j⟩⟩
  | .dispatch h b => ⟨h, .disp ⟨.normal, b⟩⟩
  | .dispatchMisc1 h b => ⟨h, .disp ⟨.misc1, b⟩⟩
  | .dispatchWrite h b => ⟨h, .disp ⟨.write, b⟩⟩
  | .dispatchPosmod h b => ⟨h, .disp ⟨.posmod, b⟩⟩
  | .byteUndef h d b => ⟨h, .bus (.byte ⟨.undef, b⟩) d⟩
  | .byteLdb h d b => ⟨h, .bus (.byte ⟨.ldb, b⟩) d⟩
  | .byteSel h d b => ⟨h, .bus (.byte ⟨.sel, b⟩) d⟩
  | .byteDpb h d b => ⟨h, .bus (.byte ⟨.dpb, b⟩) d⟩
  | .popj g src body => ⟨⟨g, true, src⟩, body⟩
  | .msrcM a g pj body => ⟨⟨g, pj, .m a⟩, body⟩
  | .msrcDispatchConstant g pj body => ⟨⟨g, pj, .fs .dispatchConstant⟩, body⟩
  | .msrcSpcPtrAndData g pj body => ⟨⟨g, pj, .fs .spcPtrAndData⟩, body⟩
  | .msrcPdlPointer g pj body => ⟨⟨g, pj, .fs .pdlPointer⟩, body⟩
  | .msrcPdlIndex g pj body => ⟨⟨g, pj, .fs .pdlIndex⟩, body⟩
  | .msrcUndef04 g pj body => ⟨⟨g, pj, .fs .undef04⟩, body⟩
  | .msrcPdlBufferIndex g pj body => ⟨⟨g, pj, .fs .pdlBufferIndex⟩, body⟩
  | .msrcOpc g pj body => ⟨⟨g, pj, .fs .opc⟩, body⟩
  | .msrcQ g pj body => ⟨⟨g, pj, .fs .q⟩, body⟩
  | .msrcVma g pj body => ⟨⟨g, pj, .fs .vma⟩, body⟩
  | .msrcMapMd g pj body => ⟨⟨g, pj, .fs .mapMd⟩, body⟩
  | .msrcMd g pj body => ⟨⟨g, pj, .fs .md⟩, body⟩
  | .msrcLc g pj body => ⟨⟨g, pj, .fs .lc⟩, body⟩
  | .msrcSpcPtrAndDataPop g pj body => ⟨⟨g, pj, .fs .spcPtrAndDataPop⟩, body⟩
  | .msrcUndef15 g pj body => ⟨⟨g, pj, .fs .undef15⟩, body⟩
  | .msrcUndef16 g pj body => ⟨⟨g, pj, .fs .undef16⟩, body⟩
  | .msrcUndef17 g pj body => ⟨⟨g, pj, .fs .undef17⟩, body⟩
  | .msrcUndef20 g pj body => ⟨⟨g, pj, .fs .undef20⟩, body⟩
  | .msrcUndef21 g pj body => ⟨⟨g, pj, .fs .undef21⟩, body⟩
  | .msrcUndef22 g pj body => ⟨⟨g, pj, .fs .undef22⟩, body⟩
  | .msrcUndef23 g pj body => ⟨⟨g, pj, .fs .undef23⟩, body⟩
  | .msrcPdlBufferPointerPop g pj body => ⟨⟨g, pj, .fs .pdlBufferPointerPop⟩, body⟩
  | .msrcPdlBufferPointer g pj body => ⟨⟨g, pj, .fs .pdlBufferPointer⟩, body⟩
  | .msrcUndef26 g pj body => ⟨⟨g, pj, .fs .undef26⟩, body⟩
  | .msrcUndef27 g pj body => ⟨⟨g, pj, .fs .undef27⟩, body⟩
  | .msrcUndef30 g pj body => ⟨⟨g, pj, .fs .undef30⟩, body⟩
  | .msrcUndef31 g pj body => ⟨⟨g, pj, .fs .undef31⟩, body⟩
  | .msrcUndef32 g pj body => ⟨⟨g, pj, .fs .undef32⟩, body⟩
  | .msrcUndef33 g pj body => ⟨⟨g, pj, .fs .undef33⟩, body⟩
  | .msrcUndef34 g pj body => ⟨⟨g, pj, .fs .undef34⟩, body⟩
  | .msrcUndef35 g pj body => ⟨⟨g, pj, .fs .undef35⟩, body⟩
  | .msrcUndef36 g pj body => ⟨⟨g, pj, .fs .undef36⟩, body⟩
  | .msrcUndef37 g pj body => ⟨⟨g, pj, .fs .undef37⟩, body⟩
  | .destA b24 addr h op => ⟨h, .bus op (.a b24 addr)⟩
  | .destNone ma h op => ⟨h, .bus op (.fn .none ma)⟩
  | .destLc ma h op => ⟨h, .bus op (.fn .lc ma)⟩
  | .destInterruptControl ma h op => ⟨h, .bus op (.fn .interruptControl ma)⟩
  | .destUndef03 ma h op => ⟨h, .bus op (.fn .undef03 ma)⟩
  | .destUndef04 ma h op => ⟨h, .bus op (.fn .undef04 ma)⟩
  | .destUndef05 ma h op => ⟨h, .bus op (.fn .undef05 ma)⟩
  | .destUndef06 ma h op => ⟨h, .bus op (.fn .undef06 ma)⟩
  | .destUndef07 ma h op => ⟨h, .bus op (.fn .undef07 ma)⟩
  | .destPdlByPointer ma h op => ⟨h, .bus op (.fn .pdlByPointer ma)⟩
  | .destPdlByPointerPush ma h op => ⟨h, .bus op (.fn .pdlByPointerPush ma)⟩
  | .destPdlByIndex ma h op => ⟨h, .bus op (.fn .pdlByIndex ma)⟩
  | .destPdlIndex ma h op => ⟨h, .bus op (.fn .pdlIndex ma)⟩
  | .destPdlPointer ma h op => ⟨h, .bus op (.fn .pdlPointer ma)⟩
  | .destSpcPush ma h op => ⟨h, .bus op (.fn .spcPush ma)⟩
  | .destOaLo ma h op => ⟨h, .bus op (.fn .oaLo ma)⟩
  | .destOaHi ma h op => ⟨h, .bus op (.fn .oaHi ma)⟩
  | .destVma ma h op => ⟨h, .bus op (.fn .vma ma)⟩
  | .destVmaStartRead ma h op => ⟨h, .bus op (.fn .vmaStartRead ma)⟩
  | .destVmaStartWrite ma h op => ⟨h, .bus op (.fn .vmaStartWrite ma)⟩
  | .destVmaWriteMap ma h op => ⟨h, .bus op (.fn .vmaWriteMap ma)⟩
  | .destUndef24 ma h op => ⟨h, .bus op (.fn .undef24 ma)⟩
  | .destUndef25 ma h op => ⟨h, .bus op (.fn .undef25 ma)⟩
  | .destUndef26 ma h op => ⟨h, .bus op (.fn .undef26 ma)⟩
  | .destUndef27 ma h op => ⟨h, .bus op (.fn .undef27 ma)⟩
  | .destMd ma h op => ⟨h, .bus op (.fn .md ma)⟩
  | .destMdStartRead ma h op => ⟨h, .bus op (.fn .mdStartRead ma)⟩
  | .destMdStartWrite ma h op => ⟨h, .bus op (.fn .mdStartWrite ma)⟩
  | .destMdWriteMap ma h op => ⟨h, .bus op (.fn .mdWriteMap ma)⟩
  | .destUndef34 ma h op => ⟨h, .bus op (.fn .undef34 ma)⟩
  | .destUndef35 ma h op => ⟨h, .bus op (.fn .undef35 ma)⟩
  | .destUndef36 ma h op => ⟨h, .bus op (.fn .undef36 ma)⟩
  | .destUndef37 ma h op => ⟨h, .bus op (.fn .undef37 ma)⟩
  | .destReserved fd ma h op => ⟨h, .bus op (.reserved fd ma)⟩

/-- An ALU word named by its function row. -/
def nameAlu (h : Head) (d : Dest) (op : AluOp) : Instr :=
  match op.fn with
  | .setz => .aluSetz h d op.bits op.ob op.qc
  | .and => .aluAnd h d op.bits op.ob op.qc
  | .andca => .aluAndca h d op.bits op.ob op.qc
  | .setm => .aluSetm h d op.bits op.ob op.qc
  | .andcm => .aluAndcm h d op.bits op.ob op.qc
  | .seta => .aluSeta h d op.bits op.ob op.qc
  | .xor => .aluXor h d op.bits op.ob op.qc
  | .ior => .aluIor h d op.bits op.ob op.qc
  | .andcb => .aluAndcb h d op.bits op.ob op.qc
  | .eqv => .aluEqv h d op.bits op.ob op.qc
  | .setca => .aluSetca h d op.bits op.ob op.qc
  | .orca => .aluOrca h d op.bits op.ob op.qc
  | .setcm => .aluSetcm h d op.bits op.ob op.qc
  | .orcm => .aluOrcm h d op.bits op.ob op.qc
  | .orcb => .aluOrcb h d op.bits op.ob op.qc
  | .seto => .aluSeto h d op.bits op.ob op.qc
  | .a20 => .aluA20 h d op.bits op.ob op.qc
  | .a21 => .aluA21 h d op.bits op.ob op.qc
  | .a22 => .aluA22 h d op.bits op.ob op.qc
  | .a23 => .aluA23 h d op.bits op.ob op.qc
  | .a24 => .aluA24 h d op.bits op.ob op.qc
  | .a25 => .aluA25 h d op.bits op.ob op.qc
  | .sub => .aluSub h d op.bits op.ob op.qc
  | .a27 => .aluA27 h d op.bits op.ob op.qc
  | .a30 => .aluA30 h d op.bits op.ob op.qc
  | .add => .aluAdd h d op.bits op.ob op.qc
  | .a32 => .aluA32 h d op.bits op.ob op.qc
  | .a33 => .aluA33 h d op.bits op.ob op.qc
  | .incm => .aluIncm h d op.bits op.ob op.qc
  | .a35 => .aluA35 h d op.bits op.ob op.qc
  | .a36 => .aluA36 h d op.bits op.ob op.qc
  | .lshm => .aluLshm h d op.bits op.ob op.qc
  | .mul => .aluMul h d op.bits op.ob op.qc
  | .div => .aluDiv h d op.bits op.ob op.qc
  | .undef42 => .aluUndef42 h d op.bits op.ob op.qc
  | .undef43 => .aluUndef43 h d op.bits op.ob op.qc
  | .undef44 => .aluUndef44 h d op.bits op.ob op.qc
  | .divrc => .aluDivrc h d op.bits op.ob op.qc
  | .undef46 => .aluUndef46 h d op.bits op.ob op.qc
  | .undef47 => .aluUndef47 h d op.bits op.ob op.qc
  | .undef50 => .aluUndef50 h d op.bits op.ob op.qc
  | .divfs => .aluDivfs h d op.bits op.ob op.qc
  | .undef52 => .aluUndef52 h d op.bits op.ob op.qc
  | .undef53 => .aluUndef53 h d op.bits op.ob op.qc
  | .undef54 => .aluUndef54 h d op.bits op.ob op.qc
  | .undef55 => .aluUndef55 h d op.bits op.ob op.qc
  | .undef56 => .aluUndef56 h d op.bits op.ob op.qc
  | .undef57 => .aluUndef57 h d op.bits op.ob op.qc
  | .undef60 => .aluUndef60 h d op.bits op.ob op.qc
  | .undef61 => .aluUndef61 h d op.bits op.ob op.qc
  | .undef62 => .aluUndef62 h d op.bits op.ob op.qc
  | .undef63 => .aluUndef63 h d op.bits op.ob op.qc
  | .undef64 => .aluUndef64 h d op.bits op.ob op.qc
  | .undef65 => .aluUndef65 h d op.bits op.ob op.qc
  | .undef66 => .aluUndef66 h d op.bits op.ob op.qc
  | .undef67 => .aluUndef67 h d op.bits op.ob op.qc
  | .undef70 => .aluUndef70 h d op.bits op.ob op.qc
  | .undef71 => .aluUndef71 h d op.bits op.ob op.qc
  | .undef72 => .aluUndef72 h d op.bits op.ob op.qc
  | .undef73 => .aluUndef73 h d op.bits op.ob op.qc
  | .undef74 => .aluUndef74 h d op.bits op.ob op.qc
  | .undef75 => .aluUndef75 h d op.bits op.ob op.qc
  | .undef76 => .aluUndef76 h d op.bits op.ob op.qc
  | .undef77 => .aluUndef77 h d op.bits op.ob op.qc

/-- A word named by its functional-source row. -/
def nameSource (f : FSrc) (g : Ignored) (pj : Bool) (body : Body) : Instr :=
  match f with
  | .dispatchConstant => .msrcDispatchConstant g pj body
  | .spcPtrAndData => .msrcSpcPtrAndData g pj body
  | .pdlPointer => .msrcPdlPointer g pj body
  | .pdlIndex => .msrcPdlIndex g pj body
  | .undef04 => .msrcUndef04 g pj body
  | .pdlBufferIndex => .msrcPdlBufferIndex g pj body
  | .opc => .msrcOpc g pj body
  | .q => .msrcQ g pj body
  | .vma => .msrcVma g pj body
  | .mapMd => .msrcMapMd g pj body
  | .md => .msrcMd g pj body
  | .lc => .msrcLc g pj body
  | .spcPtrAndDataPop => .msrcSpcPtrAndDataPop g pj body
  | .undef15 => .msrcUndef15 g pj body
  | .undef16 => .msrcUndef16 g pj body
  | .undef17 => .msrcUndef17 g pj body
  | .undef20 => .msrcUndef20 g pj body
  | .undef21 => .msrcUndef21 g pj body
  | .undef22 => .msrcUndef22 g pj body
  | .undef23 => .msrcUndef23 g pj body
  | .pdlBufferPointerPop => .msrcPdlBufferPointerPop g pj body
  | .pdlBufferPointer => .msrcPdlBufferPointer g pj body
  | .undef26 => .msrcUndef26 g pj body
  | .undef27 => .msrcUndef27 g pj body
  | .undef30 => .msrcUndef30 g pj body
  | .undef31 => .msrcUndef31 g pj body
  | .undef32 => .msrcUndef32 g pj body
  | .undef33 => .msrcUndef33 g pj body
  | .undef34 => .msrcUndef34 g pj body
  | .undef35 => .msrcUndef35 g pj body
  | .undef36 => .msrcUndef36 g pj body
  | .undef37 => .msrcUndef37 g pj body

/-- A word named by its destination row. -/
def nameDest (d : Dest) (h : Head) (op : BusOp) : Instr :=
  match d with
  | .a b24 addr => .destA b24 addr h op
  | .reserved fd ma => .destReserved fd ma h op
  | .fn f ma =>
    match f with
    | .none => .destNone ma h op
    | .lc => .destLc ma h op
    | .interruptControl => .destInterruptControl ma h op
    | .undef03 => .destUndef03 ma h op
    | .undef04 => .destUndef04 ma h op
    | .undef05 => .destUndef05 ma h op
    | .undef06 => .destUndef06 ma h op
    | .undef07 => .destUndef07 ma h op
    | .pdlByPointer => .destPdlByPointer ma h op
    | .pdlByPointerPush => .destPdlByPointerPush ma h op
    | .pdlByIndex => .destPdlByIndex ma h op
    | .pdlIndex => .destPdlIndex ma h op
    | .pdlPointer => .destPdlPointer ma h op
    | .spcPush => .destSpcPush ma h op
    | .oaLo => .destOaLo ma h op
    | .oaHi => .destOaHi ma h op
    | .vma => .destVma ma h op
    | .vmaStartRead => .destVmaStartRead ma h op
    | .vmaStartWrite => .destVmaStartWrite ma h op
    | .vmaWriteMap => .destVmaWriteMap ma h op
    | .undef24 => .destUndef24 ma h op
    | .undef25 => .destUndef25 ma h op
    | .undef26 => .destUndef26 ma h op
    | .undef27 => .destUndef27 ma h op
    | .md => .destMd ma h op
    | .mdStartRead => .destMdStartRead ma h op
    | .mdStartWrite => .destMdStartWrite ma h op
    | .mdWriteMap => .destMdWriteMap ma h op
    | .undef34 => .destUndef34 ma h op
    | .undef35 => .destUndef35 ma h op
    | .undef36 => .destUndef36 ma h op
    | .undef37 => .destUndef37 ma h op

/-- A word of function SETZ without POPJ, with destination NONE and a plain M-source (address `a`), named by its Q
control or output selector, or by its M-source or M-destination address. -/
def nameSetzPlain (h : Head) (a ma : BitVec 5) (op : AluOp) : Instr :=
  let d : Dest := .fn .none ma
  match op.qc with
  | .ql => .qcQl h d op.bits op.fn op.ob
  | .qr => .qcQr h d op.bits op.fn op.ob
  | .qload => .qcQload h d op.bits op.fn op.ob
  | .none =>
    match op.ob with
    | .r1 => .obR1 h d op.bits op.fn op.qc
    | .l1 => .obL1 h d op.bits op.fn op.qc
    | ob =>
      if a != 0 then .msrcM a h.ign h.popj (.bus (.alu op) d)
      else if ma != 0 then .destNone ma h (.alu op)
      else if ob == .undef then .obUndef h d op.bits op.fn op.qc
      else if op.bits.cin then .qcNone h d op.bits op.fn op.ob
      else if op.bits.asrc != 0 || op.bits.misc != 0 then .obAlu h d op.bits op.fn op.qc
      else .aluSetz h d op.bits op.ob op.qc

/-- A word of function SETZ, named by the first of its fields that is not neutral. -/
def nameSetz (h : Head) (d : Dest) (op : AluOp) : Instr :=
  if h.popj then .popj h.ign h.src (.bus (.alu op) d)
  else
    match d with
    | .fn .none ma =>
      match h.src with
      | .fs f => nameSource f h.ign h.popj (.bus (.alu op) d)
      | .m a => nameSetzPlain h a ma op
    | d => nameDest d h (.alu op)

/-- A JUMP word: the rows of `MISC`, then the self-write row, then the condition's row. -/
def nameJump (h : Head) (op : JumpOp) : Instr :=
  match op.misc with
  | .halt => .jumpHalt h op.bits op.r op.p op.test
  | .misc2 => .jumpMisc2 h op.bits op.r op.p op.test
  | .misc3 => .jumpMisc3 h op.bits op.r op.p op.test
  | .none =>
    if op.r && op.p then .jumpWriteUcode h op.bits op.misc op.test
    else
      match op.test with
      | .bit rot => .jumpBit h op.bits op.misc op.r op.p rot
      | .table c b43 =>
        match c with
        | .never => .jumpNever h op.bits op.misc op.r op.p b43
        | .lt => .jumpLt h op.bits op.misc op.r op.p b43
        | .le => .jumpLe h op.bits op.misc op.r op.p b43
        | .eq => .jumpEq h op.bits op.misc op.r op.p b43
        | .pf => .jumpPf h op.bits op.misc op.r op.p b43
        | .pfi => .jumpPfi h op.bits op.misc op.r op.p b43
        | .pfis => .jumpPfis h op.bits op.misc op.r op.p b43
        | .always => .jumpAlways h op.bits op.misc op.r op.p b43

/-- The instruction a word with these fields is named by. -/
def Micro.name (w : Micro) : Instr :=
  match w.body with
  | .bus (.alu op) d => if op.fn == .setz then nameSetz w.head d op else nameAlu w.head d op
  | .bus (.byte op) d =>
    match op.fn with
    | .undef => .byteUndef w.head d op.bits
    | .ldb => .byteLdb w.head d op.bits
    | .sel => .byteSel w.head d op.bits
    | .dpb => .byteDpb w.head d op.bits
  | .jump op => nameJump w.head op
  | .disp op =>
    match op.kind with
    | .normal => .dispatch w.head op.bits
    | .misc1 => .dispatchMisc1 w.head op.bits
    | .write => .dispatchWrite w.head op.bits
    | .posmod => .dispatchPosmod w.head op.bits

/-! ### Decoder and encoder -/

/-- The decoder: the NOP test, then the word's fields and its row. Total: every word is an instruction. -/
def decode (w : Microword) : Instr :=
  if isNop w then .nop (bitAt w 47) (bitAt w 12) else (Micro.parse w).name

/-- The encoder: the 48 bits of an instruction. -/
def encode (i : Instr) : Microword := i.micro.pack

/-- The instruction of a table word of `nbits` bits: container bits above 47 are not part of the instruction
(R100). -/
def decodeTableWord (nbits w : Nat) : Option Instr := some (decode (BitVec.ofNat 48 (w % 2 ^ nbits)))

end Sys2Proof
end

