-- ==== Sys2Proof/Config.lean ====
section
/-! DEFINITION. What the spec leaves open and the model does not choose: constants without a body, so that
nothing can be proved of their values. Each is named by a row of the assumption log. -/

namespace Sys2Proof

/-- The 32-bit value the `k`-th draw of an undefined functional source gives (R168: "draws any 32-bit value";
log 5). -/
opaque Config.undefSource : Nat → Word

/-- The word the `k`-th unscripted read of a device register gives (R370, U23: any value for reads; log 20). -/
opaque Config.deviceValue : Nat → Word

/-- Whether a table walk of this virtual address that ends in a denied access updates the inert translation cache
(R69, D45: left free; log 18). -/
opaque Config.cacheOnDenied : BitVec 24 → Bool

/-- What the macro-instruction history ring records in the cycle of the `k`-th draw (R44, R376: the record's
contents are not given; log 17). -/
opaque Config.macroRecord : Nat → Word

end Sys2Proof
end

