-- ==== Sys2Proof/Machine/State.lean ====
section
/-! DEFINITION. The state of the core as plain data (10_state.md), its value after reset (R50), and the reasons a
step can stop. -/

namespace Sys2Proof.Machine

/-- Why a step stops with a fault: never. The hardware has no trap and no stop but the halt, which is a state
(R350, R357, R358); a memory fault sets flags and goes on. Safe: there is nothing to raise. -/
inductive Fault where
deriving DecidableEq, Repr

/-- Why a step is refused. -/
inductive Refusal where
  /-- An instruction that has no meaning in this model yet, by its mnemonic. Raised only by an arm of `exec`; safe:
  the model stops where the hardware goes on. No arm raises it at present. -/
  | notModelled (mnemonic : String)
deriving DecidableEq, Repr

/-- A memory of words of `w` bits by index: pairs with strictly rising indexes, none of them zero; an index that is
not listed reads as zero (the reset value of every such memory, R50). -/
abbrev Store (w : Nat) : Type := List (Nat × BitVec w)

/-- The one-entry translation cache (R37): written, never read. -/
structure Cache where
  lastVirt : BitVec 24
  lastL1 : BitVec 5
  lastL2 : BitVec 24
  valid : Bool
deriving DecidableEq, Repr

/-- What a device does to the core inside a poll or a register access: the interrupt operations (R371), the physical
memory operations (R372) and the A-memory accessor (R396). -/
inductive DevCall where
  | assertUnibus (vec : BitVec 16)
  | deassertUnibus
  | assertXbus
  | deassertXbus
  | readPhy (page : Ppn) (off : BitVec 8)
  | writePhy (page : Ppn) (off : BitVec 8) (v : Word)
  | ensurePage (page : Ppn)
  | writeA (i : BitVec 10) (v : Word)
deriving DecidableEq, Repr

/-- How a device answers one register access (R370): what it does to the core meanwhile, and the word a read gives. -/
structure DevAnswer where
  value : Word
  calls : List DevCall
deriving DecidableEq, Repr

/-- One register access the core made of a device (R370), with the virtual address passed along (0 for DMA). -/
inductive DevAccess where
  | read (ppn : Ppn) (off : BitVec 8) (va : BitVec 24)
  | write (ppn : Ppn) (off : BitVec 8) (v : Word) (va : BitVec 24)
deriving DecidableEq, Repr

/-- The state of the core: every element of 10_state.md, the parameters of a run (R46) that are data, the device
interface as lists of what devices will do, and the model's own counter of free values. -/
structure State where
  /-- `u_pc` (R13) -/
  uPc : MicroPc
  /-- the word being executed (R14) -/
  p0 : Microword
  /-- the word fetched and not yet executed (R14) -/
  p1 : Microword
  /-- address of `p0` (R14) -/
  p0Pc : MicroPc
  /-- address of `p1` (R14) -/
  p1Pc : MicroPc
  /-- the stall flag (R15) -/
  noExecNext : Bool
  /-- next-instruction-modify, bits 25..0 (R16) -/
  oaLo : BitVec 26
  oaLoSet : Bool
  /-- next-instruction-modify, bits 47..26 (R16) -/
  oaHi : BitVec 22
  oaHiSet : Bool
  /-- 1 while the engine loop runs (R40) -/
  run : Bool
  /-- fetch from the PROM (R30) -/
  promEnabled : Bool
  /-- the cycle counter (R39) -/
  cycles : BitVec 32
  /-- the Q register (R17) -/
  q : Word
  /-- Virtual Memory Address (R18) -/
  vma : Word
  /-- Memory Data (R19) -/
  md : Word
  /-- the word a started read returned (R19) -/
  newMd : Word
  /-- cycle starts until `newMd` reaches `md` (R19) -/
  newMdDelay : Fin 3
  /-- the Location Counter with its flags, the Interrupt Control register among them (R20, R21) -/
  lc : Word
  /-- the dispatch constant (R28) -/
  dispatchConstant : BitVec 10
  /-- the opcode register, which captures the page number of a fault (R31) -/
  opc : BitVec 14
  /-- PDL pointer (R22) -/
  pdlPtr : BitVec 10
  /-- PDL index (R22) -/
  pdlIndex : BitVec 10
  /-- SPC pointer, addresses the top entry (R23) -/
  spcPtr : BitVec 5
  /-- memory-fault flags (R32) -/
  accessFault : Bool
  writeFault : Bool
  pageFault : Bool
  /-- interrupt status register (R34, R360) -/
  isr : BitVec 16
  /-- derived from `isr` at every write of it (R361) -/
  interruptPending : Bool
  /-- translation cache (R37) -/
  cache : Cache
  /-- A-memory, 1024 words (R10) -/
  aMem : Store 32
  /-- M-memory, 32 words (R11) -/
  mMem : Store 32
  /-- PDL memory, 1024 words (R22) -/
  pdl : Store 32
  /-- SPC stack, 32 entries (R23, R24) -/
  spc : Store 19
  /-- dispatch memory, 2048 entries (R27) -/
  dmem : Store 17
  /-- writable microcode store, 16384 words (R29) -/
  ucode : Store 48
  /-- boot PROM, 512 words (R29) -/
  prom : Store 48
  /-- level-1 map, 2048 entries (R35) -/
  l1 : Store 5
  /-- level-2 map, 1024 entries (R36) -/
  l2 : Store 24
  /-- the allocated physical pages, rising (R38) -/
  pages : List Nat
  /-- physical memory, byte cells at ((page * 256 + offset) * 4 + k) (R38, R63) -/
  mem : List Host.Cell
  /-- PHYS_RAM_PAGES - 1, a parameter of the run (R46; log 15) -/
  ramLast : BitVec 13
  /-- recent micro-PCs, newest first (R44, R138) -/
  pcHistory : List MicroPc
  /-- recent macro-instruction records, newest first (R44; log 17) -/
  macroHistory : List Word
  /-- PC_HISTORY_DEPTH, a parameter of the run (R6; log 16) -/
  pcHistoryDepth : Nat
  /-- what the I/O board and the disk will do in the polls to come (R373; log 19) -/
  pollFast : List (List DevCall)
  /-- what the display and the network will do in the coarse polls to come (R373; log 19) -/
  pollSlow : List (List DevCall)
  /-- how devices will answer the register accesses to come (R370; log 19) -/
  devAnswers : List DevAnswer
  /-- the register accesses made, newest first (R373; log 19) -/
  devLog : List DevAccess
  /-- the model's own: how many free values have been drawn (log 29) -/
  freeCount : Nat
deriving DecidableEq, Repr

/-- The machine right after reset (R50, R391): the values R50 decides, its default 0 for every row it calls
unspecified (log 13, log 14), no PROM image (log 12), the run parameters at the values of log 15 and log 16, and
devices that never act (log 19). -/
def State.reset : State where
  uPc := 0
  p0 := 0
  p1 := 0
  p0Pc := 0
  p1Pc := 0
  noExecNext := false
  oaLo := 0
  oaLoSet := false
  oaHi := 0
  oaHiSet := false
  run := true
  promEnabled := true
  cycles := 0
  q := 0
  vma := 0
  md := 0
  newMd := 0
  newMdDelay := 0
  lc := 0
  dispatchConstant := 0
  opc := 0
  pdlPtr := 0
  pdlIndex := 0
  spcPtr := 0
  accessFault := false
  writeFault := false
  pageFault := false
  isr := 0
  interruptPending := false
  cache := ⟨0, 0, 0, false⟩
  aMem := []
  mMem := []
  pdl := []
  spc := []
  dmem := []
  ucode := []
  prom := []
  l1 := []
  l2 := []
  pages := []
  mem := []
  ramLast := 8191
  pcHistory := []
  macroHistory := []
  pcHistoryDepth := 64
  pollFast := []
  pollSlow := []
  devAnswers := []
  devLog := []
  freeCount := 0

end Sys2Proof.Machine
end

