-- ==== Sys2Proof/Machine/Store.lean ====
section
/-! DEFINITION. Memories as sparse lists in one canonical form (R10 to R38), and the set of allocated pages. -/

namespace Sys2Proof.Machine

/-- The word at index `i`; an index that is not listed reads as 0 (R50). -/
def Store.get {w : Nat} (m : Store w) (i : Nat) : BitVec w :=
  match m with
  | [] => 0
  | (j, v) :: rest => if j = i then v else Store.get rest i

/-- The store without index `i`. -/
def Store.erase {w : Nat} (m : Store w) (i : Nat) : Store w :=
  match m with
  | [] => []
  | (j, v) :: rest => if j = i then Store.erase rest i else (j, v) :: Store.erase rest i

/-- The store with a pair put before the first larger index. -/
def Store.insert {w : Nat} (m : Store w) (i : Nat) (v : BitVec w) : Store w :=
  match m with
  | [] => [(i, v)]
  | (j, u) :: rest => if i < j then (i, v) :: (j, u) :: rest else (j, u) :: Store.insert rest i v

/-- `X[i] <- v`: writing the value an unlisted index reads as removes the entry. -/
def Store.set {w : Nat} (m : Store w) (i : Nat) (v : BitVec w) : Store w :=
  if v = 0 then m.erase i else (m.erase i).insert i v

/-- Indexes rise strictly from one pair to the next. -/
def Store.rising {w : Nat} (m : Store w) : Bool :=
  match m with
  | [] => true
  | [_] => true
  | (i, _) :: (j, v) :: rest => decide (i < j) && Store.rising ((j, v) :: rest)

/-- The canonical form of a memory of `size` words: rising indexes below `size`, no word 0 listed. -/
def Store.wf {w : Nat} (size : Nat) (m : Store w) : Bool :=
  m.rising && m.all fun p => decide (p.1 < size) && p.2 != 0

/-- Page numbers with `p` among them, in rising order. -/
def insertPage (pages : List Nat) (p : Nat) : List Nat :=
  match pages with
  | [] => [p]
  | r :: rest => if p < r then p :: r :: rest else if p = r then r :: rest else r :: insertPage rest p

/-- Page numbers rise strictly. -/
def pagesRising (pages : List Nat) : Bool :=
  match pages with
  | [] => true
  | [_] => true
  | p :: r :: rest => decide (p < r) && pagesRising (r :: rest)

/-- The canonical form of the set of allocated pages: rising, each below the limit 8192 (R71). -/
def pagesWf (pages : List Nat) : Bool := pagesRising pages && pages.all fun p => decide (p < 8192)

/-- The key of the first byte of word `off` of physical page `ppn`. -/
def cellKey (ppn : Ppn) (off : BitVec 8) : Nat := (ppn.toNat * 256 + off.toNat) * 4

/-- One byte of physical memory; an unlisted byte reads as 0 (R71). -/
def readByte (mem : List Host.Cell) (k : Nat) : BitVec 8 := Store.get mem k

/-- The 32-bit word at a key, byte `k` in bits `8k+7..8k` (R63). -/
def readWord (mem : List Host.Cell) (k : Nat) : Word :=
  readByte mem (k + 3) ++ readByte mem (k + 2) ++ readByte mem (k + 1) ++ readByte mem k

/-- A 32-bit word stored at a key, byte `k` from bits `8k+7..8k` (R63). -/
def writeWord (mem : List Host.Cell) (k : Nat) (v : Word) : List Host.Cell :=
  let put (m : Store 8) (i : Nat) (b : BitVec 8) : Store 8 := m.set i b
  put (put (put (put mem k (v.extractLsb' 0 8)) (k + 1) (v.extractLsb' 8 8)) (k + 2) (v.extractLsb' 16 8)) (k + 3)
    (v.extractLsb' 24 8)

/-- Memory in canonical form: rising addresses below the end of the 8192 possible pages, no byte 0 listed. -/
def Memory.wf (mem : List Host.Cell) : Bool := Store.wf (8192 * 1024) mem

end Sys2Proof.Machine
end

