-- ==== Sys2Proof/Machine/Bits.lean ====
section
/-! DEFINITION. Bit-level helpers shared by the rules (00_scope.md section 4) and the fields of the Location Counter
(R20). -/

namespace Sys2Proof.Machine

/-- `rotl32(v, n)`: rotate left by the five-bit count `n` (R234, R298). -/
def rotl32 (v : Word) (n : BitVec 5) : Word := v.rotateLeft n.toNat

/-- One bit as a 1-bit field. -/
def flagBit (b : Bool) : BitVec 1 := BitVec.ofBool b

/-- NEED-FETCH, `LC[31]` (R20). -/
def lcNeedFetch (lc : Word) : Bool := lc.getLsbD 31

/-- Byte mode, `LC[29]` (R20). -/
def lcByteMode (lc : Word) : Bool := lc.getLsbD 29

/-- Interrupt enable, `LC[27]` (R20). -/
def lcIntEnable (lc : Word) : Bool := lc.getLsbD 27

/-- Sequence break, `LC[26]` (R20). -/
def lcSeqBreak (lc : Word) : Bool := lc.getLsbD 26

/-- The byte address `LC[25:0]` (R20). -/
def lcCount (lc : Word) : BitVec 26 := lc.extractLsb' 0 26

/-- An LC with another count, flags unchanged. -/
def lcWithCount (lc : Word) (count : BitVec 26) : Word := (lc.extractLsb' 26 6 : BitVec 6) ++ count

/-- An LC with another NEED-FETCH bit. -/
def lcWithNeedFetch (lc : Word) (b : Bool) : Word := flagBit b ++ (lc.extractLsb' 0 31 : BitVec 31)

/-- The LC after a write of the LC destination (R305): count from the bus, its bit 0 cleared in halfword mode,
NEED-FETCH set, the other flags kept. -/
def lcLoad (lc out : Word) : Word :=
  let count : BitVec 26 := out.extractLsb' 0 26
  lcWithNeedFetch (lcWithCount lc (if lcByteMode lc then count else count &&& ~~~1#26)) true

/-- The LC after a write of the interrupt-control destination (R306): bits 29..26 from the bus. -/
def lcLoadFlags (lc out : Word) : Word :=
  (lc.extractLsb' 30 2 : BitVec 2) ++ (out.extractLsb' 26 4 : BitVec 4) ++ (lc.extractLsb' 0 26 : BitVec 26)

/-- The value of the LC source (R164): bit 0 forced to 0 in halfword mode. -/
def lcValue (lc : Word) : Word := if lcByteMode lc then lc else lc &&& ~~~1#32

/-- `LC` after the addition of an advance, before NEED-FETCH is looked at (R330). -/
def lcStep (lc : Word) : Word := lcWithCount lc (lcCount lc + (if lcByteMode lc then 1 else 2))

/-- `NeedFetchNext()` (R331), on the LC after the addition. -/
def lcAtWordStart (lc : Word) : Bool := !lc.getLsbD 1 && !(lcByteMode lc && lc.getLsbD 0)

/-- `PositionModify` (R296): the rotate count of the five-bit field under `MISC = 3`. -/
def positionModify (field : BitVec 5) (lc : Word) : BitVec 5 :=
  let lc0 := lc.getLsbD 0
  let lc1 := lc.getLsbD 1
  let b3 := field.getLsbD 3
  let b4 := field.getLsbD 4
  if lcByteMode lc then
    flagBit (b4 ^^ lc1 ^^ lc0) ++ flagBit (b3 ^^ lc0) ++ (field.extractLsb' 0 3 : BitVec 3)
  else flagBit (b4 ^^ !lc1) ++ (field.extractLsb' 0 4 : BitVec 4)

end Sys2Proof.Machine
end

