-- ==== Sys2Proof/Machine/Ops.lean ====
section
/-! DEFINITION. The shared operations over registers and memory: register files and the two stacks, the interrupt
controller (60_exceptions.md section 3), the device interface (section 4), translation and the memory controller
(20_memory.md), the raising of a fault (R351, R352), map write, memory start and LC advance (46_destinations.md). -/

namespace Sys2Proof.Machine

/-! ### Register files and stacks -/

/-- `A[i]` (R10). -/
def readAMem (s : State) (i : BitVec 10) : Word := s.aMem.get i.toNat

/-- `A[i] <- v` alone, as the direct A-memory destination and the accessor write it (R12, R301, R396). -/
def writeAMem (i : BitVec 10) (v : Word) (s : State) : State := { s with aMem := s.aMem.set i.toNat v }

/-- `M[i]` (R11, R152). -/
def readMMem (s : State) (i : BitVec 5) : Word := s.mMem.get i.toNat

/-- `WriteM(i, v)`: `M[i]` and its alias `A[i]` (R11). -/
def writeM (i : BitVec 5) (v : Word) (s : State) : State :=
  { s with mMem := s.mMem.set i.toNat v, aMem := s.aMem.set i.toNat v }

/-- `PDL[i]` (R22). -/
def readPdl (s : State) (i : BitVec 10) : Word := s.pdl.get i.toNat

/-- `PDL[i] <- v` (R22). -/
def writePdl (i : BitVec 10) (v : Word) (s : State) : State := { s with pdl := s.pdl.set i.toNat v }

/-- The top entry of the SPC stack (R23). -/
def spcTop (s : State) : BitVec 19 := s.spc.get s.spcPtr.toNat

/-- `SpcPush(v)` (R25). -/
def spcPush (v : BitVec 19) (s : State) : State :=
  { s with spcPtr := s.spcPtr + 1, spc := s.spc.set (s.spcPtr + 1).toNat v }

/-- The pointer move of `SpcPop()` (R26); the value popped is `spcTop`. -/
def spcDrop (s : State) : State := { s with spcPtr := s.spcPtr - 1 }

/-! ### The interrupt controller -/

/-- `PENDING`, bits 15 and 14 of the ISR (R360). -/
def isrPendingMask : BitVec 16 := 0o140000
/-- `unibus_enable` (R360). -/
def isrUnibusEnable : BitVec 16 := 0o2000
/-- `unibus_pending` (R360). -/
def isrUnibusPending : BitVec 16 := 0o100000
/-- `xbus_pending` (R360). -/
def isrXbusPending : BitVec 16 := 0o40000
/-- `VEC`, the vector bits 9..2 (R360). -/
def isrVectorMask : BitVec 16 := 0o1774
/-- `WMASK20`, what a bus write at offset 0o20 changes (R360, R366). -/
def isrWriteMask20 : BitVec 16 := 0o36001
/-- `WMASK21`, what a bus write at offset 0o21 changes (R360, R366). -/
def isrWriteMask21 : BitVec 16 := 0o101774

/-- The combined pending flag of an ISR value (R361). -/
def isrPending (v : BitVec 16) : Bool := v &&& isrPendingMask != 0

/-- `SetISR(v)`: every change of the ISR recomputes the pending flag (R361). -/
def setIsr (v : BitVec 16) (s : State) : State := { s with isr := v, interruptPending := isrPending v }

/-- `assert_unibus_interrupt(vec)`: lost unless unibus interrupts are enabled (R362). -/
def assertUnibus (vec : BitVec 16) (s : State) : State :=
  if s.isr &&& isrUnibusEnable != 0 then
    setIsr ((s.isr &&& ~~~isrVectorMask) ||| isrUnibusPending ||| (vec &&& isrVectorMask)) s
  else s

/-- `deassert_unibus_interrupt()`: clears pending bit and vector, only if pending (R363). -/
def deassertUnibus (s : State) : State :=
  if s.isr &&& isrUnibusPending != 0 then setIsr (s.isr &&& ~~~(isrUnibusPending ||| isrVectorMask)) s else s

/-- `assert_xbus_interrupt()`: always takes effect (R364). -/
def assertXbus (s : State) : State := setIsr (s.isr ||| isrXbusPending) s

/-- `deassert_xbus_interrupt()`: only if pending (R365). -/
def deassertXbus (s : State) : State :=
  if s.isr &&& isrXbusPending != 0 then setIsr (s.isr &&& ~~~isrXbusPending) s else s

/-! ### Physical pages -/

/-- The device pages of `PERIPH_PAGES` (R75): display, XBUS controller page, IOB extension page. The fourth,
the unibus page, has no device behind it. -/
def isDevicePage (ppn : Ppn) : Bool := ppn == 0o36000 || ppn == 0o36777 || ppn == 0o37764

/-- The always-empty unibus page with the ISR and the PROM-disable location (R75, R76, R77). -/
def unibusPage : Ppn := 0o37766

/-- `NXM_READ_VALUE` (R72). -/
def nxmReadValue : Word := 0xFFFFFFFF

/-- `ppn < PHYS_RAM_PAGES` (R71). -/
def isRamPage (s : State) (ppn : Ppn) : Bool := decide (ppn.toNat ≤ s.ramLast.toNat)

/-- `ppn in exists` (R38). -/
def pageExists (s : State) (ppn : Ppn) : Bool := s.pages.contains ppn.toNat

/-- `EnsurePage(ppn)` (R71): pages from 8192 on never exist; a new page reads as zeros. -/
def ensurePage (ppn : Ppn) (s : State) : State :=
  if ppn.toNat < 8192 then { s with pages := insertPage s.pages ppn.toNat } else s

/-- `PHYS[ppn][off]` (R38). -/
def physWord (s : State) (ppn : Ppn) (off : BitVec 8) : Word := readWord s.mem (cellKey ppn off)

/-- `PHYS[ppn][off] <- v` (R38). -/
def setPhysWord (ppn : Ppn) (off : BitVec 8) (v : Word) (s : State) : State :=
  { s with mem := writeWord s.mem (cellKey ppn off) v }

/-- The part of `PhysRead` behind the peripheral routing (R72). -/
def ramRead (ppn : Ppn) (off : BitVec 8) (s : State) : Word × State :=
  if pageExists s ppn then (physWord s ppn off, s)
  else if isRamPage s ppn then (0, ensurePage ppn s)
  else (nxmReadValue, s)

/-- The part of `PhysWrite` behind the peripheral routing (R73). -/
def ramWrite (ppn : Ppn) (off : BitVec 8) (v : Word) (s : State) : State :=
  if pageExists s ppn then setPhysWord ppn off v s
  else if isRamPage s ppn then setPhysWord ppn off v (ensurePage ppn s)
  else s

/-- A read of the unibus page (R76, R366). -/
def unibusRead (off : BitVec 8) (s : State) : Word := if off = 0o20 then s.isr.setWidth 32 else 0

/-- A write of the unibus page: the two ISR locations and the PROM-disable event (R76, R77, R366). -/
def unibusWrite (off : BitVec 8) (v : Word) (s : State) : State :=
  let low : BitVec 16 := v.setWidth 16
  if off = 0o20 then setIsr ((s.isr &&& ~~~isrWriteMask20) ||| (low &&& isrWriteMask20)) s
  else if off = 0o21 then setIsr ((s.isr &&& ~~~isrWriteMask21) ||| (low &&& isrWriteMask21)) s
  else if off = 0o5 then if v &&& 0o44 = 0o44 then { s with promEnabled := false } else s
  else s

/-! ### Devices -/

/-- A register access written to the log of accesses (R373). -/
def logAccess (a : DevAccess) (s : State) : State := { s with devLog := a :: s.devLog }

/-- What runs a list of device calls: a parameter of the operations below, because a device may reach the registers of
another device by DMA (R372, R74; log 22). -/
abbrev CallRunner : Type := List DevCall → State → State

/-- `DeviceRead(ppn, off, va)` (R74, R370): the access is logged and the next answer taken, whose calls run; with no
answer left the word is a free value and the device does nothing (log 19, log 20). -/
def deviceReadWith (run : CallRunner) (ppn : Ppn) (off : BitVec 8) (va : BitVec 24) (s : State) : Word × State :=
  let s := logAccess (.read ppn off va) s
  match s.devAnswers with
  | [] => (Config.deviceValue s.freeCount, { s with freeCount := s.freeCount + 1 })
  | a :: rest => (a.value, run a.calls { s with devAnswers := rest })

/-- `DeviceWrite(ppn, off, v, va)` (R74, R370): logged, and the calls of the next answer run. -/
def deviceWriteWith (run : CallRunner) (ppn : Ppn) (off : BitVec 8) (v : Word) (va : BitVec 24) (s : State) : State :=
  let s := logAccess (.write ppn off v va) s
  match s.devAnswers with
  | [] => s
  | a :: rest => run a.calls { s with devAnswers := rest }

/-- `PhysRead(ppn, off, va)` (R72). -/
def physReadWith (run : CallRunner) (ppn : Ppn) (off : BitVec 8) (va : BitVec 24) (s : State) : Word × State :=
  if isDevicePage ppn then deviceReadWith run ppn off va s
  else if ppn = unibusPage then (unibusRead off s, s)
  else ramRead ppn off s

/-- `PhysWrite(ppn, off, v, va)` (R73). -/
def physWriteWith (run : CallRunner) (ppn : Ppn) (off : BitVec 8) (v : Word) (va : BitVec 24) (s : State) : State :=
  if isDevicePage ppn then deviceWriteWith run ppn off v va s
  else if ppn = unibusPage then unibusWrite off v s
  else ramWrite ppn off v s

/-- One call a device makes of the core (R371, R372, R396). `read_phy(p, o)` is `PhysRead(p, o, 0)`, its word goes to
the device; `write_phy(p, o, v)` is `PhysWrite(p, o, v, 0)`; `ensure_page_exists(p)` is `EnsurePage(p)` (R372). -/
def devCallWith (run : CallRunner) (c : DevCall) (s : State) : State :=
  match c with
  | .assertUnibus vec => assertUnibus vec s
  | .deassertUnibus => deassertUnibus s
  | .assertXbus => assertXbus s
  | .deassertXbus => deassertXbus s
  | .readPhy p o => (physReadWith run p o 0 s).2
  | .writePhy p o v => physWriteWith run p o v 0 s
  | .ensurePage p => ensurePage p s
  | .writeA i v => writeAMem i v s

/-- A list of calls in order; `run` runs the calls of a device that another device reached. -/
def devCallsWith (run : CallRunner) (cs : List DevCall) (s : State) : State :=
  match cs with
  | [] => s
  | c :: rest => devCallsWith run rest (devCallWith run c s)

/-- A list of calls, where devices reach devices at most `depth` deep. -/
def devCallsDepth (depth : Nat) : CallRunner :=
  match depth with
  | 0 => devCallsWith fun _ s => s
  | depth + 1 => devCallsWith (devCallsDepth depth)

/-- The calls of one poll or one register access, in order, and of the devices these reach. Every access of a device
takes an answer, so that the depth cannot exceed the number of answers (`devCalls_cons` in Laws/Ops.lean). -/
def devCalls (cs : List DevCall) (s : State) : State := devCallsDepth s.devAnswers.length cs s

/-- `PhysRead(ppn, off, va)` (R72). -/
def physRead (ppn : Ppn) (off : BitVec 8) (va : BitVec 24) (s : State) : Word × State :=
  physReadWith devCalls ppn off va s

/-- `PhysWrite(ppn, off, v, va)` (R73). -/
def physWrite (ppn : Ppn) (off : BitVec 8) (v : Word) (va : BitVec 24) (s : State) : State :=
  physWriteWith devCalls ppn off v va s

/-! ### The address translator -/

/-- The physical base of the hardwired window `va` lies in, if any (R66), tested in the order of its table. -/
def windowBase (va : BitVec 24) : Option Ppn :=
  if va &&& 0o77700000 = 0o77000000 then some 0o36000
  else if va &&& 0o77700000 = 0o77200000 then some 0o36000
  else if va &&& 0o77777400 = 0o77377400 then some 0o36777
  else none

/-- What `Translate` answers (R65). -/
structure Translation where
  ppn : Ppn
  accessOk : Bool
  writeOk : Bool
  off : BitVec 8
  l1 : BitVec 5
  l2 : BitVec 24
deriving DecidableEq, Repr

/-- Index into the level-1 map, `va[23:13]` (R67). -/
def l1Index (va : BitVec 24) : Nat := (va.extractLsb' 13 11).toNat

/-- Index into the level-2 map, bucket and `va[12:8]` (R67). -/
def l2Index (bucket : BitVec 5) (va : BitVec 24) : Nat := (bucket ++ (va.extractLsb' 8 5 : BitVec 5)).toNat

/-- `Translate(va)`: window, else table walk (R65 to R68). -/
def translateVa (s : State) (va : BitVec 24) : Translation :=
  match windowBase va with
  | some base => ⟨base, true, true, va.extractLsb' 0 8, 0, 0xC00000 ||| base.setWidth 24⟩
  | none =>
    let l1 := s.l1.get (l1Index va)
    let l2 := s.l2.get (l2Index l1 va)
    ⟨l2.extractLsb' 0 14, l2.getLsbD 23, l2.getLsbD 22, va.extractLsb' 0 8, l1, l2⟩

/-- The cache update of a table walk (R69); a walk that ends in a denied access may or may not make it (log 18). -/
def noteWalk (va : BitVec 24) (s : State) : State :=
  match windowBase va with
  | some _ => s
  | none =>
    let t := translateVa s va
    { s with cache := if t.accessOk || Config.cacheOnDenied va then ⟨va &&& 0xFFFF00, t.l1, t.l2, true⟩ else s.cache }

/-- `InvalidateCache()` (R70). -/
def invalidateCache (s : State) : State := { s with cache := { s.cache with valid := false } }

/-! ### Faults -/

/-- The two faults of a memory cycle (R351, R352). -/
inductive MemFault where
  | access
  | write
deriving DecidableEq, Repr

/-- Raising a fault, which is all the exception entry this hardware has (R350 to R352, R358): the flags and the page
number are recorded, nothing is saved, no handler is entered and the instruction goes on. There is no return from it
either (R359). -/
def raiseFault (f : MemFault) (ppn : Ppn) (s : State) : State :=
  match f with
  | .access => { s with accessFault := true, pageFault := true, opc := ppn }
  | .write => { s with writeFault := true, pageFault := true, opc := ppn }

/-- Every memory cycle begins by clearing the three flags (R82). -/
def clearFaults (s : State) : State := { s with accessFault := false, writeFault := false, pageFault := false }

/-! ### Memory cycles -/

/-- `MemRead(va, 32)` (R80): `none` is `Fault`. -/
def memRead (va : BitVec 24) (s : State) : Option Word × State :=
  let s1 := noteWalk va (clearFaults s)
  let t := translateVa s1 va
  if t.accessOk then
    let r := physRead t.ppn t.off va s1
    (some r.1, r.2)
  else (none, raiseFault .access t.ppn s1)

/-- `MemWrite(va, 32, v)` (R81); its result is visible only in the flags. -/
def memWrite (va : BitVec 24) (v : Word) (s : State) : State :=
  let s1 := noteWalk va (clearFaults s)
  let t := translateVa s1 va
  if !t.accessOk then raiseFault .access t.ppn s1
  else if !t.writeOk then raiseFault .write t.ppn s1
  else physWrite t.ppn t.off v va s1

/-- The virtual address of a memory cycle, `VMA[23:0]` (R60). -/
def cycleAddress (s : State) : BitVec 24 := s.vma.extractLsb' 0 24

/-- `StartRead()` (R325): on success the word waits two cycle starts; a fault leaves the read's data path alone. -/
def startRead (s : State) : State :=
  match memRead (cycleAddress s) s with
  | (some v, s1) => { s1 with newMd := v, newMdDelay := 2 }
  | (none, s1) => s1

/-- `StartWrite()` (R326). -/
def startWrite (s : State) : State := memWrite (cycleAddress s) s.md s

/-- The address whose map entries a map write changes, `MD[23:0]` (R324). -/
def mapAddress (s : State) : BitVec 24 := s.md.extractLsb' 0 24

/-- The level-1 half of a map write (R324). -/
def writeLevel1 (s : State) : State :=
  if s.vma.getLsbD 26 then
    invalidateCache { s with l1 := s.l1.set (l1Index (mapAddress s)) (s.vma.extractLsb' 27 5) }
  else s

/-- The level-2 half of a map write, with the level-1 entry as it then is (R324). -/
def writeLevel2 (s : State) : State :=
  if s.vma.getLsbD 25 then
    let bucket := s.l1.get (l1Index (mapAddress s))
    ensurePage (s.vma.extractLsb' 0 14)
      (invalidateCache { s with l2 := s.l2.set (l2Index bucket (mapAddress s)) (s.vma.extractLsb' 0 24) })
  else s

/-- `WriteMap()` (R324). -/
def writeMap (s : State) : State := writeLevel2 (writeLevel1 s)

/-! ### The Location Counter and returns -/

/-- `AdvanceLC(v)` (R330): the value returned through, possibly with bit 1 set, and the state. -/
def advanceLc (v : BitVec 19) (s : State) : BitVec 19 × State :=
  let stepped := lcStep s.lc
  let need := lcAtWordStart stepped
  let finish (s : State) : State := if need then { s with lc := lcWithNeedFetch s.lc true } else s
  if lcNeedFetch s.lc then
    (v, finish (startRead { s with
      lc := lcWithNeedFetch stepped false
      vma := ((lcCount s.lc).extractLsb' 2 24 : BitVec 24).setWidth 32 }))
  else (v ||| 2, finish { s with lc := stepped })

/-- `SpcPop()` followed by the LC advance that bit 14 of the entry asks for (R140, R142): the return address and the
state. -/
def popReturn (s : State) : MicroPc × State :=
  let v := spcTop s
  let s1 := spcDrop s
  if v.getLsbD 14 then
    let r := advanceLc v s1
    (r.1.extractLsb' 0 14, r.2)
  else (v.extractLsb' 0 14, s1)

/-- `Popj()` (R142). -/
def doPopj (s : State) : State :=
  let r := popReturn s
  { r.2 with uPc := r.1 }

/-- The end of an instruction with its `POPJ` bit (R130). -/
def popjIf (popj : Bool) (s : State) : State := if popj then doPopj s else s

/-! ### Fetch and store of microcode -/

/-- `Fetch(pc)` (R134). -/
def fetch (s : State) (pc : MicroPc) : Microword :=
  if s.promEnabled then s.prom.get (pc.toNat % 512) else s.ucode.get pc.toNat

/-- A word of the writable store, as the self-write (R257) and the host (R394) write it. -/
def writeUcode (pc : MicroPc) (w : Microword) (s : State) : State := { s with ucode := s.ucode.set pc.toNat w }

end Sys2Proof.Machine
end

