-- ==== Sys2Proof/Machine/Flags.lean ====
section
/-! DEFINITION. What the classes compute: the ALU functions with their carry, output selector and Q control
(42_alu.md), the jump conditions (43_jump.md), the byte field masks (45_byte.md). The machine keeps no result flags
(R33, R232). -/

namespace Sys2Proof.Machine

/-- `alu_out` and `alu_carry` (R33). -/
structure AluResult where
  out : Word
  carry : Bool
deriving DecidableEq, Repr

/-- `add33(x, y, c)`: the 33-bit sum, as the 32-bit sum and the carry-out (R182). -/
def add33 (x y : Word) (c : Bool) : AluResult :=
  let sum : BitVec 33 := x.setWidth 33 + y.setWidth 33 + (flagBit c).setWidth 33
  ⟨sum.setWidth 32, sum.getLsbD 32⟩

/-- A boolean function: carry 0 (R183). -/
def logical (v : Word) : AluResult := ⟨v, false⟩

/-- `AluFunction` (R186 to R221); `q0` is `Q[0]`. `none` for an undefined code, which has no effect after the operand
reads (R185; log 2). -/
def aluFunction (f : AluFn) (m a : Word) (cin q0 : Bool) : Option AluResult :=
  match f with
  | .setz => some (logical 0)
  | .and => some (logical (m &&& a))
  | .andca => some (logical (m &&& ~~~a))
  | .setm => some (logical m)
  | .andcm => some (logical (~~~m &&& a))
  | .seta => some (logical a)
  | .xor => some (logical (m ^^^ a))
  | .ior => some (logical (m ||| a))
  | .andcb => some (logical (~~~m &&& ~~~a))
  | .eqv => some (logical (~~~(m ^^^ a)))
  | .setca => some (logical (~~~a))
  | .orca => some (logical (m ||| ~~~a))
  | .setcm => some (logical (~~~m))
  | .orcm => some (logical (~~~m ||| a))
  | .orcb => some (logical (~~~m ||| ~~~a))
  | .seto => some (logical 0xFFFFFFFF)
  | .a20 => some (add33 0xFFFFFFFF 0 cin)
  | .a21 => some (add33 (m &&& a) 0xFFFFFFFF cin)
  | .a22 => some (add33 (m &&& ~~~a) 0xFFFFFFFF cin)
  | .a23 => some (add33 m 0xFFFFFFFF cin)
  | .a24 => some (add33 (m ||| ~~~a) 0 cin)
  | .a25 => some (add33 (m ||| ~~~a) (m &&& a) cin)
  | .sub => some (add33 m (~~~a) cin)
  | .a27 => some (add33 (m ||| ~~~a) m cin)
  | .a30 => some (add33 (m ||| a) 0 cin)
  | .add => some (add33 m a cin)
  | .a32 => some (add33 (m ||| a) (m &&& ~~~a) cin)
  | .a33 => some (add33 (m ||| a) m cin)
  | .incm => some (add33 m 0 cin)
  | .a35 => some (add33 m (m &&& a) cin)
  | .a36 => some (add33 m (m ||| ~~~a) cin)
  | .lshm => some (add33 m m cin)
  | .mul => some (if q0 then add33 m a cin else ⟨m, m.getLsbD 31⟩)
  | .div => some (if q0 then add33 m (~~~a) (!cin) else add33 m a cin)
  | .undef42 => none
  | .undef43 => none
  | .undef44 => none
  | .divrc => some (if q0 then ⟨m, false⟩ else add33 m a cin)
  | .undef46 => none
  | .undef47 => none
  | .undef50 => none
  | .divfs => some (add33 m (~~~a) (!cin))
  | .undef52 => none
  | .undef53 => none
  | .undef54 => none
  | .undef55 => none
  | .undef56 => none
  | .undef57 => none
  | .undef60 => none
  | .undef61 => none
  | .undef62 => none
  | .undef63 => none
  | .undef64 => none
  | .undef65 => none
  | .undef66 => none
  | .undef67 => none
  | .undef70 => none
  | .undef71 => none
  | .undef72 => none
  | .undef73 => none
  | .undef74 => none
  | .undef75 => none
  | .undef76 => none
  | .undef77 => none

/-- `OutputSelect` (R222 to R226) with Q as it was before; `none` for the undefined selector (R223; log 3). -/
def outputSelect (ob : OutSel) (r : AluResult) (oldQ : Word) : Option Word :=
  match ob with
  | .undef => none
  | .alu => some r.out
  | .r1 => some (flagBit r.carry ++ (r.out.extractLsb' 1 31 : BitVec 31))
  | .l1 => some ((r.out.extractLsb' 0 31 : BitVec 31) ++ flagBit (oldQ.getLsbD 31))

/-- `QControl` (R227 to R230), from the ALU result before the output selector. -/
def qControl (qc : QCtl) (oldQ out : Word) : Word :=
  match qc with
  | .none => oldQ
  | .ql => (oldQ.extractLsb' 0 31 : BitVec 31) ++ flagBit (!out.getLsbD 31)
  | .qr => flagBit (out.getLsbD 0) ++ (oldQ.extractLsb' 1 31 : BitVec 31)
  | .qload => out

/-- `page_fault | (LC.int_enable & interrupt_pending)` (R248). -/
def faultOrInterrupt (s : State) : Bool := s.pageFault || (lcIntEnable s.lc && s.interruptPending)

/-- `JumpCondition` (R243 to R250). -/
def jumpCondition (c : JCond) (m a : Word) (s : State) : Bool :=
  match c with
  | .never => false
  | .lt => decide (m.toInt < a.toInt)
  | .le => decide (m.toInt ≤ a.toInt)
  | .eq => m == a
  | .pf => s.pageFault
  | .pfi => faultOrInterrupt s
  | .pfis => faultOrInterrupt s || lcSeqBreak s.lc
  | .always => true

/-- The condition of a JUMP before INV: table or bit test (R240, R251). -/
def testCondition (t : JTest) (m a : Word) (s : State) : Bool :=
  match t with
  | .table c _ => jumpCondition c m a s
  | .bit rot => (rotl32 m rot).getLsbD 0

/-- `FieldMask(anchor, pos, widm1)` (R291). -/
def fieldMask (anchor : Bool) (pos widm1 : BitVec 5) : Word :=
  let right : BitVec 5 := if anchor then pos else 0
  let left : BitVec 5 := right + widm1
  let rightMask : Word := BitVec.allOnes 32 <<< right.toNat
  let leftMask : Word := BitVec.allOnes 32 >>> (31 - left.toNat)
  leftMask &&& rightMask

/-- `(field & mask) | (A & ~mask)` (R290). -/
def merge (mask field a : Word) : Word := (field &&& mask) ||| (a &&& ~~~mask)

/-- What a BYTE operation gives (R293 to R295); `none` for the undefined one (R292; log 4). -/
def byteFunction (f : ByteFn) (pos widm1 : BitVec 5) (m a : Word) : Option Word :=
  match f with
  | .undef => none
  | .ldb => some (merge (fieldMask false pos widm1) (rotl32 m pos) a)
  | .sel => some (merge (fieldMask true pos widm1) m a)
  | .dpb => some (merge (fieldMask true pos widm1) (rotl32 m pos) a)

end Sys2Proof.Machine
end

