-- ==== Sys2Proof/Machine/Operands.lean ====
section
/-! DEFINITION. Every operand form: A-source and M-source (41_sources.md), every destination (46_destinations.md). -/

namespace Sys2Proof.Machine

/-- `ReadA` (R150). -/
def readA (asrc : BitVec 10) (s : State) : Word := readAMem s asrc

/-- Source SPC-PTR-AND-DATA (R155). -/
def spcWord (s : State) : Word := 0#3 ++ s.spcPtr ++ 0#5 ++ spcTop s

/-- The address of the map probe, `MD[23:0]` (R162, R274). -/
def probeAddress (s : State) : BitVec 24 := s.md.extractLsb' 0 24

/-- Source MAP-MD (R162). -/
def mapWord (s : State) : Word :=
  let t := translateVa s (probeAddress s)
  flagBit s.writeFault ++ flagBit s.accessFault ++ 0#1 ++ t.l1 ++ t.l2

/-- An undefined functional source: a free value, no other effect (R168; log 5). -/
def drawSource (s : State) : Word × State := (Config.undefSource s.freeCount, { s with freeCount := s.freeCount + 1 })

/-- The functional sources (R154 to R168): value, and state after the read. -/
def readSource (f : FSrc) (s : State) : Word × State :=
  match f with
  | .dispatchConstant => (s.dispatchConstant.setWidth 32, s)
  | .spcPtrAndData => (spcWord s, s)
  | .pdlPointer => (s.pdlPtr.setWidth 32, s)
  | .pdlIndex => (s.pdlIndex.setWidth 32, s)
  | .undef04 => drawSource s
  | .pdlBufferIndex => (readPdl s s.pdlIndex, s)
  | .opc => (s.opc.setWidth 32, s)
  | .q => (s.q, s)
  | .vma => (s.vma, s)
  | .mapMd => (mapWord s, noteWalk (probeAddress s) s)
  | .md => (s.md, s)
  | .lc => (lcValue s.lc, s)
  | .spcPtrAndDataPop => (spcWord s, spcDrop s)
  | .undef15 => drawSource s
  | .undef16 => drawSource s
  | .undef17 => drawSource s
  | .undef20 => drawSource s
  | .undef21 => drawSource s
  | .undef22 => drawSource s
  | .undef23 => drawSource s
  | .pdlBufferPointerPop => (readPdl s s.pdlPtr, { s with pdlPtr := s.pdlPtr - 1 })
  | .pdlBufferPointer => (readPdl s s.pdlPtr, s)
  | .undef26 => drawSource s
  | .undef27 => drawSource s
  | .undef30 => drawSource s
  | .undef31 => drawSource s
  | .undef32 => drawSource s
  | .undef33 => drawSource s
  | .undef34 => drawSource s
  | .undef35 => drawSource s
  | .undef36 => drawSource s
  | .undef37 => drawSource s

/-- `ReadM` (R151): value, and state after the read. -/
def readM (src : MSrc) (s : State) : Word × State :=
  match src with
  | .m a => (readMMem s a, s)
  | .fs f => readSource f s

/-- The functional destinations (R304 to R323), without the M-memory capture. -/
def functionalDest (f : FDest) (out : Word) (s : State) : State :=
  match f with
  | .none => s
  | .lc => { s with lc := lcLoad s.lc out }
  | .interruptControl => { s with lc := lcLoadFlags s.lc out }
  | .undef03 => s
  | .undef04 => s
  | .undef05 => s
  | .undef06 => s
  | .undef07 => s
  | .pdlByPointer => writePdl s.pdlPtr out s
  | .pdlByPointerPush => writePdl (s.pdlPtr + 1) out { s with pdlPtr := s.pdlPtr + 1 }
  | .pdlByIndex => writePdl s.pdlIndex out s
  | .pdlIndex => { s with pdlIndex := out.extractLsb' 0 10 }
  | .pdlPointer => { s with pdlPtr := out.extractLsb' 0 10 }
  | .spcPush => spcPush (out.extractLsb' 0 19) s
  | .oaLo => { s with oaLo := out.extractLsb' 0 26, oaLoSet := true }
  | .oaHi => { s with oaHi := out.extractLsb' 0 22, oaHiSet := true }
  | .vma => { s with vma := out }
  | .vmaStartRead => startRead { s with vma := out }
  | .vmaStartWrite => startWrite { s with vma := out }
  | .vmaWriteMap => writeMap { s with vma := out }
  | .undef24 => s
  | .undef25 => s
  | .undef26 => s
  | .undef27 => s
  | .md => { s with md := out }
  | .mdStartRead => startRead { s with md := out }
  | .mdStartWrite => startWrite { s with md := out }
  | .mdWriteMap => writeMap { s with md := out }
  | .undef34 => s
  | .undef35 => s
  | .undef36 => s
  | .undef37 => s

/-- `WriteDest` (R300): direct A-memory, or the functional destination and then the M-memory capture (R302, R303).
With the reserved bit set no functional destination is written and the capture still happens (R323; log 6). -/
def writeDest (d : Dest) (out : Word) (s : State) : State :=
  match d with
  | .a _ addr => writeAMem addr out s
  | .fn f m => writeM m out (functionalDest f out s)
  | .reserved _ m => writeM m out s

end Sys2Proof.Machine
end

