-- ==== Sys2Proof/Machine/Engine.lean ====
section
/-! DEFINITION. The four execute routines (R180, R240, R270, R290) and the transfer logic they share (R140), over the
fields of a word. The order inside an instruction is R144: M-source, A-source, compute, write, POPJ, halt. -/

namespace Sys2Proof.Machine

/-! ### Words that drive the output bus -/

/-- The rotate count of a BYTE word: the literal field, or position modify under `MISC = 3` (R290, R296). -/
def bytePosition (b : ByteBits) (s : State) : BitVec 5 :=
  if b.misc = 3 then positionModify b.brot s.lc else b.brot

/-- Output bus and new Q of an ALU or BYTE word whose M-source gave `m` (R180, R290); `none` where the word has no
effect after its operand reads. `s` is the state after the M-source read. -/
def busValue (op : BusOp) (m : Word) (s : State) : Option (Word × Word) :=
  match op with
  | .alu op =>
    match aluFunction op.fn m (readA op.bits.asrc s) op.bits.cin (s.q.getLsbD 0) with
    | none => none
    | some r =>
      match outputSelect op.ob r s.q with
      | none => none
      | some out => some (out, qControl op.qc s.q r.out)
  | .byte op =>
    match byteFunction op.fn (bytePosition op.bits s) op.bits.widm1 m (readA op.bits.asrc s) with
    | none => none
    | some out => some (out, s.q)

/-- The writes of an ALU or BYTE word (R180, R231, R297). -/
def busWrites (op : BusOp) (d : Dest) (m : Word) (s : State) : State :=
  match busValue op m s with
  | none => s
  | some (out, q) => writeDest d out { s with q := q }

/-- An ALU or BYTE word after its M-source read: the writes, then `POPJ` (R144). -/
def finishBus (popj : Bool) (op : BusOp) (d : Dest) (m : Word) (s : State) : State := popjIf popj (busWrites op d m s)

/-- `ExecAlu` (R180). -/
def aluWord (h : Head) (op : AluOp) (d : Dest) (s : State) : State :=
  let r := readM h.src s
  finishBus h.popj (.alu op) d r.1 r.2

/-- `ExecByte` (R290). -/
def byteWord (h : Head) (op : ByteOp) (d : Dest) (s : State) : State :=
  let r := readM h.src s
  finishBus h.popj (.byte op) d r.1 r.2

/-! ### Transfers -/

/-- `ReturnAddress(n)` (R141). -/
def returnAddress (n : Bool) (s : State) : MicroPc := if n then s.uPc - 1 else s.uPc

/-- `ResolveJump` (R140) but for `popj`, which the caller clears when the jump is taken. `selfWrite` holds the word
of the microcode self-write, for the JUMP class. -/
def resolveJump (target : MicroPc) (r p n take : Bool) (selfWrite : Option Microword) (s : State) : State :=
  let s1 := if p && take then spcPush ((returnAddress n s).setWidth 19) s else s
  let s2 :=
    match selfWrite with
    | some w => if p && r then writeUcode target w s1 else s1
    | none => s1
  let pop := if r && take then popReturn s2 else (target, s2)
  if take then { pop.2 with uPc := pop.1, noExecNext := n || pop.2.noExecNext } else pop.2

/-- The word a self-write stores (R123, R257). -/
def selfWriteWord (a m : Word) : Microword := (a.extractLsb' 0 16 : BitVec 16) ++ m

/-- A JUMP word after its M-source read (R240): condition, transfer, `POPJ` unless taken, halt. -/
def finishJump (popj : Bool) (op : JumpOp) (m : Word) (s : State) : State :=
  let a := readA op.bits.asrc s
  let take := testCondition op.test m a s ^^ op.bits.inv
  let s1 := resolveJump op.bits.jaddr op.r op.p op.bits.n take (some (selfWriteWord a m)) s
  let s2 := popjIf (popj && !take) s1
  if op.misc == .halt then { s2 with run := false } else s2

/-- `ExecJump` (R240). -/
def jumpWord (h : Head) (op : JumpOp) (s : State) : State :=
  let r := readM h.src s
  finishJump h.popj op r.1 r.2

/-! ### Dispatch -/

/-- The rotate count of a DISPATCH word (R272). -/
def dispatchPosition (kind : DispKind) (b : DispBits) (s : State) : BitVec 5 :=
  if kind == .posmod then positionModify b.drot s.lc else b.drot

/-- The bit the map mode ORs into the address (R274). -/
def mapBit (dmap : BitVec 2) (l2 : BitVec 24) : Bool :=
  (dmap.getLsbD 0 && l2.getLsbD 18) || (dmap.getLsbD 1 && l2.getLsbD 19)

/-- The dispatch-memory address (R273, R274). -/
def dispatchAddress (kind : DispKind) (b : DispBits) (m : Word) (s : State) : BitVec 11 :=
  let field : Word := rotl32 m (dispatchPosition kind b s) &&& ((1#32 <<< b.dlen.toNat) - 1)
  let bit := b.dmap != 0 && mapBit b.dmap (translateVa s (probeAddress s)).l2
  b.daddr ||| field.setWidth 11 ||| (flagBit bit).setWidth 11

/-- A dispatching DISPATCH word after its M-source read (R270 to R280). -/
def finishDispatch (popj : Bool) (kind : DispKind) (b : DispBits) (m : Word) (s : State) : State :=
  let e := s.dmem.get (dispatchAddress kind b m s).toNat
  let target : MicroPc := e.extractLsb' 0 14
  let n := e.getLsbD 14
  let p := e.getLsbD 15
  let r := e.getLsbD 16
  let s1 := if b.dmap != 0 then noteWalk (probeAddress s) s else s
  let s2 := { s1 with dispatchConstant := b.dconst }
  let s3 := if b.nplus1 && n then { s2 with uPc := s2.uPc - 1 } else s2
  let s4 := if b.ish then (advanceLc 0 s3).2 else s3
  if p && r then popjIf popj { s4 with noExecNext := n || s4.noExecNext }
  else resolveJump target r p n true none s4

/-- The dispatch-memory write (R281): no M-source read. -/
def dispatchWrite (popj : Bool) (b : DispBits) (s : State) : State :=
  popjIf popj { s with dmem := s.dmem.set b.daddr.toNat ((readA b.dconst s).extractLsb' 0 17) }

/-- `ExecDispatch` (R270). -/
def dispatchWord (h : Head) (op : DispOp) (s : State) : State :=
  match op.kind with
  | .write => dispatchWrite h.popj op.bits s
  | kind =>
    let r := readM h.src s
    finishDispatch h.popj kind op.bits r.1 r.2

/-! ### Any word -/

/-- Class dispatch on the fields of a word (R143). -/
def runMicro (w : Micro) (s : State) : State :=
  match w.body with
  | .bus (.alu op) d => aluWord w.head op d s
  | .bus (.byte op) d => byteWord w.head op d s
  | .jump op => jumpWord w.head op s
  | .disp op => dispatchWord w.head op s

end Sys2Proof.Machine
end

