-- ==== Sys2Proof/Machine/Cycle.lean ====
section
/-! DEFINITION. The steps of a cycle before execution (R130 to R138): poll, cycle count, delayed MD load, fetch and
pipeline advance, stall, next-instruction modify, history. -/

namespace Sys2Proof.Machine

/-- One poll of the devices behind a script: its first list of calls runs and is gone. -/
def pollCalls (script : List (List DevCall)) : List DevCall := script.headD []

/-- The I/O board and the disk are polled (R131). -/
def pollFast (s : State) : State := devCalls (pollCalls s.pollFast) { s with pollFast := s.pollFast.tail }

/-- The display and the network are polled where `cycles mod 65536 = 0` (R131). -/
def pollSlow (s : State) : State :=
  if s.cycles.toNat % 65536 = 0 then devCalls (pollCalls s.pollSlow) { s with pollSlow := s.pollSlow.tail } else s

/-- `Poll()` (R131, R373; log 21 for the order of the two polls). -/
def poll (s : State) : State := pollSlow (pollFast s)

/-- The cycle counter skips 0 when it wraps (R132). -/
def nextCycle (c : BitVec 32) : BitVec 32 := if c + 1 = 0 then 1 else c + 1

/-- The cycle is counted (R130). -/
def countCycle (s : State) : State := { s with cycles := nextCycle s.cycles }

/-- `DelayedMdLoad()` (R133). -/
def delayedMdLoad (s : State) : State :=
  if s.newMdDelay = 0 then s
  else if s.newMdDelay = 1 then { s with newMdDelay := 0, md := s.newMd }
  else { s with newMdDelay := 1 }

/-- `p1` moves into `p0` and a new word is fetched (R135). -/
def advancePipe (s : State) : State :=
  { s with p0 := s.p1, p0Pc := s.p1Pc, p1 := fetch s s.uPc, p1Pc := s.uPc, uPc := s.uPc + 1 }

/-- The stall: the word in `p0` is discarded and the pipeline moves once more (R136). -/
def stall (s : State) : State := if s.noExecNext then advancePipe { s with noExecNext := false } else s

/-- The bits the OA registers OR into the word (R137). -/
def oaBits (s : State) : Microword :=
  (if s.oaLoSet then s.oaLo.setWidth 48 else 0) ||| (if s.oaHiSet then s.oaHi.setWidth 48 <<< 26 else 0)

/-- Next-instruction modify (R137). -/
def mergeOa (s : State) : State := { s with p0 := s.p0 ||| oaBits s, oaLoSet := false, oaHiSet := false }

/-- The two diagnostic rings (R44, R138; log 17). -/
def recordHistory (s : State) : State :=
  { s with
    pcHistory := (s.p0Pc :: s.pcHistory).take s.pcHistoryDepth
    macroHistory := (Config.macroRecord s.freeCount :: s.macroHistory).take s.pcHistoryDepth
    freeCount := s.freeCount + 1 }

/-- Everything of a cycle before the NOP test (R130): afterwards `p0` is the word to execute. -/
def prepare (s : State) : State :=
  recordHistory (mergeOa (stall (advancePipe (delayedMdLoad (countCycle (poll s))))))

end Sys2Proof.Machine
end

