-- ==== Sys2Proof/Machine/Alu.lean ====
section
/-! DEFINITION. Meanings. The ALU class, one meaning per function row (R185 to R221). A meaning covers every operand form, output selector,
Q control, destination and the POPJ bit of its function. -/

namespace Sys2Proof.Machine

/-- ALU.SETZ (R186). -/
def execAluSetz (h : Head) (d : Dest) (b : AluBits) (ob : OutSel) (qc : QCtl) (s : State) :
    Host.Outcome State Fault Refusal :=
  .next (aluWord h ⟨.setz, ob, qc, b⟩ d s)

/-- ALU.AND (R187). -/
def execAluAnd (h : Head) (d : Dest) (b : AluBits) (ob : OutSel) (qc : QCtl) (s : State) :
    Host.Outcome State Fault Refusal :=
  .next (aluWord h ⟨.and, ob, qc, b⟩ d s)

/-- ALU.ANDCA (R188). -/
def execAluAndca (h : Head) (d : Dest) (b : AluBits) (ob : OutSel) (qc : QCtl) (s : State) :
    Host.Outcome State Fault Refusal :=
  .next (aluWord h ⟨.andca, ob, qc, b⟩ d s)

/-- ALU.SETM (R189). -/
def execAluSetm (h : Head) (d : Dest) (b : AluBits) (ob : OutSel) (qc : QCtl) (s : State) :
    Host.Outcome State Fault Refusal :=
  .next (aluWord h ⟨.setm, ob, qc, b⟩ d s)

/-- ALU.ANDCM (R190). -/
def execAluAndcm (h : Head) (d : Dest) (b : AluBits) (ob : OutSel) (qc : QCtl) (s : State) :
    Host.Outcome State Fault Refusal :=
  .next (aluWord h ⟨.andcm, ob, qc, b⟩ d s)

/-- ALU.SETA (R191). -/
def execAluSeta (h : Head) (d : Dest) (b : AluBits) (ob : OutSel) (qc : QCtl) (s : State) :
    Host.Outcome State Fault Refusal :=
  .next (aluWord h ⟨.seta, ob, qc, b⟩ d s)

/-- ALU.XOR (R192). -/
def execAluXor (h : Head) (d : Dest) (b : AluBits) (ob : OutSel) (qc : QCtl) (s : State) :
    Host.Outcome State Fault Refusal :=
  .next (aluWord h ⟨.xor, ob, qc, b⟩ d s)

/-- ALU.IOR (R193). -/
def execAluIor (h : Head) (d : Dest) (b : AluBits) (ob : OutSel) (qc : QCtl) (s : State) :
    Host.Outcome State Fault Refusal :=
  .next (aluWord h ⟨.ior, ob, qc, b⟩ d s)

/-- ALU.ANDCB (R194). -/
def execAluAndcb (h : Head) (d : Dest) (b : AluBits) (ob : OutSel) (qc : QCtl) (s : State) :
    Host.Outcome State Fault Refusal :=
  .next (aluWord h ⟨.andcb, ob, qc, b⟩ d s)

/-- ALU.EQV (R195). -/
def execAluEqv (h : Head) (d : Dest) (b : AluBits) (ob : OutSel) (qc : QCtl) (s : State) :
    Host.Outcome State Fault Refusal :=
  .next (aluWord h ⟨.eqv, ob, qc, b⟩ d s)

/-- ALU.SETCA (R196). -/
def execAluSetca (h : Head) (d : Dest) (b : AluBits) (ob : OutSel) (qc : QCtl) (s : State) :
    Host.Outcome State Fault Refusal :=
  .next (aluWord h ⟨.setca, ob, qc, b⟩ d s)

/-- ALU.ORCA (R197). -/
def execAluOrca (h : Head) (d : Dest) (b : AluBits) (ob : OutSel) (qc : QCtl) (s : State) :
    Host.Outcome State Fault Refusal :=
  .next (aluWord h ⟨.orca, ob, qc, b⟩ d s)

/-- ALU.SETCM (R198). -/
def execAluSetcm (h : Head) (d : Dest) (b : AluBits) (ob : OutSel) (qc : QCtl) (s : State) :
    Host.Outcome State Fault Refusal :=
  .next (aluWord h ⟨.setcm, ob, qc, b⟩ d s)

/-- ALU.ORCM (R199). -/
def execAluOrcm (h : Head) (d : Dest) (b : AluBits) (ob : OutSel) (qc : QCtl) (s : State) :
    Host.Outcome State Fault Refusal :=
  .next (aluWord h ⟨.orcm, ob, qc, b⟩ d s)

/-- ALU.ORCB (R200). -/
def execAluOrcb (h : Head) (d : Dest) (b : AluBits) (ob : OutSel) (qc : QCtl) (s : State) :
    Host.Outcome State Fault Refusal :=
  .next (aluWord h ⟨.orcb, ob, qc, b⟩ d s)

/-- ALU.SETO (R201). -/
def execAluSeto (h : Head) (d : Dest) (b : AluBits) (ob : OutSel) (qc : QCtl) (s : State) :
    Host.Outcome State Fault Refusal :=
  .next (aluWord h ⟨.seto, ob, qc, b⟩ d s)

/-- ALU.A20 (R202). -/
def execAluA20 (h : Head) (d : Dest) (b : AluBits) (ob : OutSel) (qc : QCtl) (s : State) :
    Host.Outcome State Fault Refusal :=
  .next (aluWord h ⟨.a20, ob, qc, b⟩ d s)

/-- ALU.A21 (R203). -/
def execAluA21 (h : Head) (d : Dest) (b : AluBits) (ob : OutSel) (qc : QCtl) (s : State) :
    Host.Outcome State Fault Refusal :=
  .next (aluWord h ⟨.a21, ob, qc, b⟩ d s)

/-- ALU.A22 (R204). -/
def execAluA22 (h : Head) (d : Dest) (b : AluBits) (ob : OutSel) (qc : QCtl) (s : State) :
    Host.Outcome State Fault Refusal :=
  .next (aluWord h ⟨.a22, ob, qc, b⟩ d s)

/-- ALU.A23 (R205). -/
def execAluA23 (h : Head) (d : Dest) (b : AluBits) (ob : OutSel) (qc : QCtl) (s : State) :
    Host.Outcome State Fault Refusal :=
  .next (aluWord h ⟨.a23, ob, qc, b⟩ d s)

/-- ALU.A24 (R206). -/
def execAluA24 (h : Head) (d : Dest) (b : AluBits) (ob : OutSel) (qc : QCtl) (s : State) :
    Host.Outcome State Fault Refusal :=
  .next (aluWord h ⟨.a24, ob, qc, b⟩ d s)

/-- ALU.A25 (R207). -/
def execAluA25 (h : Head) (d : Dest) (b : AluBits) (ob : OutSel) (qc : QCtl) (s : State) :
    Host.Outcome State Fault Refusal :=
  .next (aluWord h ⟨.a25, ob, qc, b⟩ d s)

/-- ALU.SUB (R208). -/
def execAluSub (h : Head) (d : Dest) (b : AluBits) (ob : OutSel) (qc : QCtl) (s : State) :
    Host.Outcome State Fault Refusal :=
  .next (aluWord h ⟨.sub, ob, qc, b⟩ d s)

/-- ALU.A27 (R209). -/
def execAluA27 (h : Head) (d : Dest) (b : AluBits) (ob : OutSel) (qc : QCtl) (s : State) :
    Host.Outcome State Fault Refusal :=
  .next (aluWord h ⟨.a27, ob, qc, b⟩ d s)

/-- ALU.A30 (R210). -/
def execAluA30 (h : Head) (d : Dest) (b : AluBits) (ob : OutSel) (qc : QCtl) (s : State) :
    Host.Outcome State Fault Refusal :=
  .next (aluWord h ⟨.a30, ob, qc, b⟩ d s)

/-- ALU.ADD (R211). -/
def execAluAdd (h : Head) (d : Dest) (b : AluBits) (ob : OutSel) (qc : QCtl) (s : State) :
    Host.Outcome State Fault Refusal :=
  .next (aluWord h ⟨.add, ob, qc, b⟩ d s)

/-- ALU.A32 (R212). -/
def execAluA32 (h : Head) (d : Dest) (b : AluBits) (ob : OutSel) (qc : QCtl) (s : State) :
    Host.Outcome State Fault Refusal :=
  .next (aluWord h ⟨.a32, ob, qc, b⟩ d s)

/-- ALU.A33 (R213). -/
def execAluA33 (h : Head) (d : Dest) (b : AluBits) (ob : OutSel) (qc : QCtl) (s : State) :
    Host.Outcome State Fault Refusal :=
  .next (aluWord h ⟨.a33, ob, qc, b⟩ d s)

/-- ALU.INCM (R214). -/
def execAluIncm (h : Head) (d : Dest) (b : AluBits) (ob : OutSel) (qc : QCtl) (s : State) :
    Host.Outcome State Fault Refusal :=
  .next (aluWord h ⟨.incm, ob, qc, b⟩ d s)

/-- ALU.A35 (R215). -/
def execAluA35 (h : Head) (d : Dest) (b : AluBits) (ob : OutSel) (qc : QCtl) (s : State) :
    Host.Outcome State Fault Refusal :=
  .next (aluWord h ⟨.a35, ob, qc, b⟩ d s)

/-- ALU.A36 (R216). -/
def execAluA36 (h : Head) (d : Dest) (b : AluBits) (ob : OutSel) (qc : QCtl) (s : State) :
    Host.Outcome State Fault Refusal :=
  .next (aluWord h ⟨.a36, ob, qc, b⟩ d s)

/-- ALU.LSHM (R217). -/
def execAluLshm (h : Head) (d : Dest) (b : AluBits) (ob : OutSel) (qc : QCtl) (s : State) :
    Host.Outcome State Fault Refusal :=
  .next (aluWord h ⟨.lshm, ob, qc, b⟩ d s)

/-- ALU.MUL (R218). -/
def execAluMul (h : Head) (d : Dest) (b : AluBits) (ob : OutSel) (qc : QCtl) (s : State) :
    Host.Outcome State Fault Refusal :=
  .next (aluWord h ⟨.mul, ob, qc, b⟩ d s)

/-- ALU.DIV (R219). -/
def execAluDiv (h : Head) (d : Dest) (b : AluBits) (ob : OutSel) (qc : QCtl) (s : State) :
    Host.Outcome State Fault Refusal :=
  .next (aluWord h ⟨.div, ob, qc, b⟩ d s)

/-- ALU.UNDEF.0o42 (R185): no effect after the operand reads, POPJ honoured (log 2). -/
def execAluUndef42 (h : Head) (d : Dest) (b : AluBits) (ob : OutSel) (qc : QCtl) (s : State) :
    Host.Outcome State Fault Refusal :=
  .next (aluWord h ⟨.undef42, ob, qc, b⟩ d s)

/-- ALU.UNDEF.0o43 (R185): no effect after the operand reads, POPJ honoured (log 2). -/
def execAluUndef43 (h : Head) (d : Dest) (b : AluBits) (ob : OutSel) (qc : QCtl) (s : State) :
    Host.Outcome State Fault Refusal :=
  .next (aluWord h ⟨.undef43, ob, qc, b⟩ d s)

/-- ALU.UNDEF.0o44 (R185): no effect after the operand reads, POPJ honoured (log 2). -/
def execAluUndef44 (h : Head) (d : Dest) (b : AluBits) (ob : OutSel) (qc : QCtl) (s : State) :
    Host.Outcome State Fault Refusal :=
  .next (aluWord h ⟨.undef44, ob, qc, b⟩ d s)

/-- ALU.DIVRC (R220). -/
def execAluDivrc (h : Head) (d : Dest) (b : AluBits) (ob : OutSel) (qc : QCtl) (s : State) :
    Host.Outcome State Fault Refusal :=
  .next (aluWord h ⟨.divrc, ob, qc, b⟩ d s)

/-- ALU.UNDEF.0o46 (R185): no effect after the operand reads, POPJ honoured (log 2). -/
def execAluUndef46 (h : Head) (d : Dest) (b : AluBits) (ob : OutSel) (qc : QCtl) (s : State) :
    Host.Outcome State Fault Refusal :=
  .next (aluWord h ⟨.undef46, ob, qc, b⟩ d s)

/-- ALU.UNDEF.0o47 (R185): no effect after the operand reads, POPJ honoured (log 2). -/
def execAluUndef47 (h : Head) (d : Dest) (b : AluBits) (ob : OutSel) (qc : QCtl) (s : State) :
    Host.Outcome State Fault Refusal :=
  .next (aluWord h ⟨.undef47, ob, qc, b⟩ d s)

/-- ALU.UNDEF.0o50 (R185): no effect after the operand reads, POPJ honoured (log 2). -/
def execAluUndef50 (h : Head) (d : Dest) (b : AluBits) (ob : OutSel) (qc : QCtl) (s : State) :
    Host.Outcome State Fault Refusal :=
  .next (aluWord h ⟨.undef50, ob, qc, b⟩ d s)

/-- ALU.DIVFS (R221). -/
def execAluDivfs (h : Head) (d : Dest) (b : AluBits) (ob : OutSel) (qc : QCtl) (s : State) :
    Host.Outcome State Fault Refusal :=
  .next (aluWord h ⟨.divfs, ob, qc, b⟩ d s)

/-- ALU.UNDEF.0o52 (R185): no effect after the operand reads, POPJ honoured (log 2). -/
def execAluUndef52 (h : Head) (d : Dest) (b : AluBits) (ob : OutSel) (qc : QCtl) (s : State) :
    Host.Outcome State Fault Refusal :=
  .next (aluWord h ⟨.undef52, ob, qc, b⟩ d s)

/-- ALU.UNDEF.0o53 (R185): no effect after the operand reads, POPJ honoured (log 2). -/
def execAluUndef53 (h : Head) (d : Dest) (b : AluBits) (ob : OutSel) (qc : QCtl) (s : State) :
    Host.Outcome State Fault Refusal :=
  .next (aluWord h ⟨.undef53, ob, qc, b⟩ d s)

/-- ALU.UNDEF.0o54 (R185): no effect after the operand reads, POPJ honoured (log 2). -/
def execAluUndef54 (h : Head) (d : Dest) (b : AluBits) (ob : OutSel) (qc : QCtl) (s : State) :
    Host.Outcome State Fault Refusal :=
  .next (aluWord h ⟨.undef54, ob, qc, b⟩ d s)

/-- ALU.UNDEF.0o55 (R185): no effect after the operand reads, POPJ honoured (log 2). -/
def execAluUndef55 (h : Head) (d : Dest) (b : AluBits) (ob : OutSel) (qc : QCtl) (s : State) :
    Host.Outcome State Fault Refusal :=
  .next (aluWord h ⟨.undef55, ob, qc, b⟩ d s)

/-- ALU.UNDEF.0o56 (R185): no effect after the operand reads, POPJ honoured (log 2). -/
def execAluUndef56 (h : Head) (d : Dest) (b : AluBits) (ob : OutSel) (qc : QCtl) (s : State) :
    Host.Outcome State Fault Refusal :=
  .next (aluWord h ⟨.undef56, ob, qc, b⟩ d s)

/-- ALU.UNDEF.0o57 (R185): no effect after the operand reads, POPJ honoured (log 2). -/
def execAluUndef57 (h : Head) (d : Dest) (b : AluBits) (ob : OutSel) (qc : QCtl) (s : State) :
    Host.Outcome State Fault Refusal :=
  .next (aluWord h ⟨.undef57, ob, qc, b⟩ d s)

/-- ALU.UNDEF.0o60 (R185): no effect after the operand reads, POPJ honoured (log 2). -/
def execAluUndef60 (h : Head) (d : Dest) (b : AluBits) (ob : OutSel) (qc : QCtl) (s : State) :
    Host.Outcome State Fault Refusal :=
  .next (aluWord h ⟨.undef60, ob, qc, b⟩ d s)

/-- ALU.UNDEF.0o61 (R185): no effect after the operand reads, POPJ honoured (log 2). -/
def execAluUndef61 (h : Head) (d : Dest) (b : AluBits) (ob : OutSel) (qc : QCtl) (s : State) :
    Host.Outcome State Fault Refusal :=
  .next (aluWord h ⟨.undef61, ob, qc, b⟩ d s)

/-- ALU.UNDEF.0o62 (R185): no effect after the operand reads, POPJ honoured (log 2). -/
def execAluUndef62 (h : Head) (d : Dest) (b : AluBits) (ob : OutSel) (qc : QCtl) (s : State) :
    Host.Outcome State Fault Refusal :=
  .next (aluWord h ⟨.undef62, ob, qc, b⟩ d s)

/-- ALU.UNDEF.0o63 (R185): no effect after the operand reads, POPJ honoured (log 2). -/
def execAluUndef63 (h : Head) (d : Dest) (b : AluBits) (ob : OutSel) (qc : QCtl) (s : State) :
    Host.Outcome State Fault Refusal :=
  .next (aluWord h ⟨.undef63, ob, qc, b⟩ d s)

/-- ALU.UNDEF.0o64 (R185): no effect after the operand reads, POPJ honoured (log 2). -/
def execAluUndef64 (h : Head) (d : Dest) (b : AluBits) (ob : OutSel) (qc : QCtl) (s : State) :
    Host.Outcome State Fault Refusal :=
  .next (aluWord h ⟨.undef64, ob, qc, b⟩ d s)

/-- ALU.UNDEF.0o65 (R185): no effect after the operand reads, POPJ honoured (log 2). -/
def execAluUndef65 (h : Head) (d : Dest) (b : AluBits) (ob : OutSel) (qc : QCtl) (s : State) :
    Host.Outcome State Fault Refusal :=
  .next (aluWord h ⟨.undef65, ob, qc, b⟩ d s)

/-- ALU.UNDEF.0o66 (R185): no effect after the operand reads, POPJ honoured (log 2). -/
def execAluUndef66 (h : Head) (d : Dest) (b : AluBits) (ob : OutSel) (qc : QCtl) (s : State) :
    Host.Outcome State Fault Refusal :=
  .next (aluWord h ⟨.undef66, ob, qc, b⟩ d s)

/-- ALU.UNDEF.0o67 (R185): no effect after the operand reads, POPJ honoured (log 2). -/
def execAluUndef67 (h : Head) (d : Dest) (b : AluBits) (ob : OutSel) (qc : QCtl) (s : State) :
    Host.Outcome State Fault Refusal :=
  .next (aluWord h ⟨.undef67, ob, qc, b⟩ d s)

/-- ALU.UNDEF.0o70 (R185): no effect after the operand reads, POPJ honoured (log 2). -/
def execAluUndef70 (h : Head) (d : Dest) (b : AluBits) (ob : OutSel) (qc : QCtl) (s : State) :
    Host.Outcome State Fault Refusal :=
  .next (aluWord h ⟨.undef70, ob, qc, b⟩ d s)

/-- ALU.UNDEF.0o71 (R185): no effect after the operand reads, POPJ honoured (log 2). -/
def execAluUndef71 (h : Head) (d : Dest) (b : AluBits) (ob : OutSel) (qc : QCtl) (s : State) :
    Host.Outcome State Fault Refusal :=
  .next (aluWord h ⟨.undef71, ob, qc, b⟩ d s)

/-- ALU.UNDEF.0o72 (R185): no effect after the operand reads, POPJ honoured (log 2). -/
def execAluUndef72 (h : Head) (d : Dest) (b : AluBits) (ob : OutSel) (qc : QCtl) (s : State) :
    Host.Outcome State Fault Refusal :=
  .next (aluWord h ⟨.undef72, ob, qc, b⟩ d s)

/-- ALU.UNDEF.0o73 (R185): no effect after the operand reads, POPJ honoured (log 2). -/
def execAluUndef73 (h : Head) (d : Dest) (b : AluBits) (ob : OutSel) (qc : QCtl) (s : State) :
    Host.Outcome State Fault Refusal :=
  .next (aluWord h ⟨.undef73, ob, qc, b⟩ d s)

/-- ALU.UNDEF.0o74 (R185): no effect after the operand reads, POPJ honoured (log 2). -/
def execAluUndef74 (h : Head) (d : Dest) (b : AluBits) (ob : OutSel) (qc : QCtl) (s : State) :
    Host.Outcome State Fault Refusal :=
  .next (aluWord h ⟨.undef74, ob, qc, b⟩ d s)

/-- ALU.UNDEF.0o75 (R185): no effect after the operand reads, POPJ honoured (log 2). -/
def execAluUndef75 (h : Head) (d : Dest) (b : AluBits) (ob : OutSel) (qc : QCtl) (s : State) :
    Host.Outcome State Fault Refusal :=
  .next (aluWord h ⟨.undef75, ob, qc, b⟩ d s)

/-- ALU.UNDEF.0o76 (R185): no effect after the operand reads, POPJ honoured (log 2). -/
def execAluUndef76 (h : Head) (d : Dest) (b : AluBits) (ob : OutSel) (qc : QCtl) (s : State) :
    Host.Outcome State Fault Refusal :=
  .next (aluWord h ⟨.undef76, ob, qc, b⟩ d s)

/-- ALU.UNDEF.0o77 (R185): no effect after the operand reads, POPJ honoured (log 2). -/
def execAluUndef77 (h : Head) (d : Dest) (b : AluBits) (ob : OutSel) (qc : QCtl) (s : State) :
    Host.Outcome State Fault Refusal :=
  .next (aluWord h ⟨.undef77, ob, qc, b⟩ d s)

end Sys2Proof.Machine
end

