-- ==== Sys2Proof/Machine/AluFields.lean ====
section
/-! DEFINITION. Meanings. The ALU class seen from its output selector and Q control rows (R223 to R230). A meaning covers every function,
operand form and destination with that selector or control. -/

namespace Sys2Proof.Machine

/-- OB.UNDEF (R223): no effect after the operand reads (log 3). -/
def execObUndef (h : Head) (d : Dest) (b : AluBits) (fn : AluFn) (qc : QCtl) (s : State) :
    Host.Outcome State Fault Refusal :=
  .next (aluWord h ⟨fn, .undef, qc, b⟩ d s)

/-- OB.ALU (R224). -/
def execObAlu (h : Head) (d : Dest) (b : AluBits) (fn : AluFn) (qc : QCtl) (s : State) :
    Host.Outcome State Fault Refusal :=
  .next (aluWord h ⟨fn, .alu, qc, b⟩ d s)

/-- OB.R1 (R225). -/
def execObR1 (h : Head) (d : Dest) (b : AluBits) (fn : AluFn) (qc : QCtl) (s : State) :
    Host.Outcome State Fault Refusal :=
  .next (aluWord h ⟨fn, .r1, qc, b⟩ d s)

/-- OB.L1 (R226). -/
def execObL1 (h : Head) (d : Dest) (b : AluBits) (fn : AluFn) (qc : QCtl) (s : State) :
    Host.Outcome State Fault Refusal :=
  .next (aluWord h ⟨fn, .l1, qc, b⟩ d s)

/-- QC.NONE (R227). -/
def execQcNone (h : Head) (d : Dest) (b : AluBits) (fn : AluFn) (ob : OutSel) (s : State) :
    Host.Outcome State Fault Refusal :=
  .next (aluWord h ⟨fn, ob, .none, b⟩ d s)

/-- QC.QL (R228). -/
def execQcQl (h : Head) (d : Dest) (b : AluBits) (fn : AluFn) (ob : OutSel) (s : State) :
    Host.Outcome State Fault Refusal :=
  .next (aluWord h ⟨fn, ob, .ql, b⟩ d s)

/-- QC.QR (R229). -/
def execQcQr (h : Head) (d : Dest) (b : AluBits) (fn : AluFn) (ob : OutSel) (s : State) :
    Host.Outcome State Fault Refusal :=
  .next (aluWord h ⟨fn, ob, .qr, b⟩ d s)

/-- QC.QLOAD (R230). -/
def execQcQload (h : Head) (d : Dest) (b : AluBits) (fn : AluFn) (ob : OutSel) (s : State) :
    Host.Outcome State Fault Refusal :=
  .next (aluWord h ⟨fn, ob, .qload, b⟩ d s)

end Sys2Proof.Machine
end

