-- ==== Sys2Proof/Machine/ByteClass.lean ====
section
/-! DEFINITION. Meanings. The BYTE class (45_byte.md). -/

namespace Sys2Proof.Machine

/-- BYTE.UNDEF (R292): no effect after the operand reads, POPJ honoured (log 4). -/
def execByteUndef (h : Head) (d : Dest) (b : ByteBits) (s : State) :
    Host.Outcome State Fault Refusal :=
  .next (byteWord h ⟨.undef, b⟩ d s)

/-- BYTE.LDB (R293). -/
def execByteLdb (h : Head) (d : Dest) (b : ByteBits) (s : State) :
    Host.Outcome State Fault Refusal :=
  .next (byteWord h ⟨.ldb, b⟩ d s)

/-- BYTE.SEL (R294). -/
def execByteSel (h : Head) (d : Dest) (b : ByteBits) (s : State) :
    Host.Outcome State Fault Refusal :=
  .next (byteWord h ⟨.sel, b⟩ d s)

/-- BYTE.DPB (R295). -/
def execByteDpb (h : Head) (d : Dest) (b : ByteBits) (s : State) :
    Host.Outcome State Fault Refusal :=
  .next (byteWord h ⟨.dpb, b⟩ d s)

end Sys2Proof.Machine
end

