-- ==== Sys2Proof/Machine/Common.lean ====
section
/-! DEFINITION. Meanings. The NOP (R118, R139) and the POPJ row (R142). -/

namespace Sys2Proof.Machine

/-- NOP (R118, R139): nothing beyond what the cycle did before. -/
def execNop (_b47 _b12 : Bool) (s : State) :
    Host.Outcome State Fault Refusal :=
  .next s

/-- POPJ (R142). -/
def execPopj (g : Ignored) (src : MSrc) (body : Body) (s : State) :
    Host.Outcome State Fault Refusal :=
  .next (runMicro ⟨⟨g, true, src⟩, body⟩ s)

end Sys2Proof.Machine
end

