-- ==== Sys2Proof/Machine/Destinations.lean ====
section
/-! DEFINITION. Meanings. Words of the ALU and BYTE classes seen from their destination row (R301 to R323). A meaning covers every operation
that drives the output bus. -/

namespace Sys2Proof.Machine

/-- DEST.A (R301). -/
def execDestA (b24 : Bool) (addr : BitVec 10) (h : Head) (op : BusOp) (s : State) :
    Host.Outcome State Fault Refusal :=
  .next (runMicro ⟨h, .bus op (.a b24 addr)⟩ s)

/-- DEST.NONE (R304). -/
def execDestNone (ma : BitVec 5) (h : Head) (op : BusOp) (s : State) :
    Host.Outcome State Fault Refusal :=
  .next (runMicro ⟨h, .bus op (.fn .none ma)⟩ s)

/-- DEST.LC (R305). -/
def execDestLc (ma : BitVec 5) (h : Head) (op : BusOp) (s : State) :
    Host.Outcome State Fault Refusal :=
  .next (runMicro ⟨h, .bus op (.fn .lc ma)⟩ s)

/-- DEST.INTERRUPT-CONTROL (R306). -/
def execDestInterruptControl (ma : BitVec 5) (h : Head) (op : BusOp) (s : State) :
    Host.Outcome State Fault Refusal :=
  .next (runMicro ⟨h, .bus op (.fn .interruptControl ma)⟩ s)

/-- DEST.UNDEF.0o03 (R323): the M-memory capture alone (log 6). -/
def execDestUndef03 (ma : BitVec 5) (h : Head) (op : BusOp) (s : State) :
    Host.Outcome State Fault Refusal :=
  .next (runMicro ⟨h, .bus op (.fn .undef03 ma)⟩ s)

/-- DEST.UNDEF.0o04 (R323): the M-memory capture alone (log 6). -/
def execDestUndef04 (ma : BitVec 5) (h : Head) (op : BusOp) (s : State) :
    Host.Outcome State Fault Refusal :=
  .next (runMicro ⟨h, .bus op (.fn .undef04 ma)⟩ s)

/-- DEST.UNDEF.0o05 (R323): the M-memory capture alone (log 6). -/
def execDestUndef05 (ma : BitVec 5) (h : Head) (op : BusOp) (s : State) :
    Host.Outcome State Fault Refusal :=
  .next (runMicro ⟨h, .bus op (.fn .undef05 ma)⟩ s)

/-- DEST.UNDEF.0o06 (R323): the M-memory capture alone (log 6). -/
def execDestUndef06 (ma : BitVec 5) (h : Head) (op : BusOp) (s : State) :
    Host.Outcome State Fault Refusal :=
  .next (runMicro ⟨h, .bus op (.fn .undef06 ma)⟩ s)

/-- DEST.UNDEF.0o07 (R323): the M-memory capture alone (log 6). -/
def execDestUndef07 (ma : BitVec 5) (h : Head) (op : BusOp) (s : State) :
    Host.Outcome State Fault Refusal :=
  .next (runMicro ⟨h, .bus op (.fn .undef07 ma)⟩ s)

/-- DEST.PDL-BY-POINTER (R307). -/
def execDestPdlByPointer (ma : BitVec 5) (h : Head) (op : BusOp) (s : State) :
    Host.Outcome State Fault Refusal :=
  .next (runMicro ⟨h, .bus op (.fn .pdlByPointer ma)⟩ s)

/-- DEST.PDL-BY-POINTER-PUSH (R308). -/
def execDestPdlByPointerPush (ma : BitVec 5) (h : Head) (op : BusOp) (s : State) :
    Host.Outcome State Fault Refusal :=
  .next (runMicro ⟨h, .bus op (.fn .pdlByPointerPush ma)⟩ s)

/-- DEST.PDL-BY-INDEX (R309). -/
def execDestPdlByIndex (ma : BitVec 5) (h : Head) (op : BusOp) (s : State) :
    Host.Outcome State Fault Refusal :=
  .next (runMicro ⟨h, .bus op (.fn .pdlByIndex ma)⟩ s)

/-- DEST.PDL-INDEX (R310). -/
def execDestPdlIndex (ma : BitVec 5) (h : Head) (op : BusOp) (s : State) :
    Host.Outcome State Fault Refusal :=
  .next (runMicro ⟨h, .bus op (.fn .pdlIndex ma)⟩ s)

/-- DEST.PDL-POINTER (R311). -/
def execDestPdlPointer (ma : BitVec 5) (h : Head) (op : BusOp) (s : State) :
    Host.Outcome State Fault Refusal :=
  .next (runMicro ⟨h, .bus op (.fn .pdlPointer ma)⟩ s)

/-- DEST.SPC-PUSH (R312). -/
def execDestSpcPush (ma : BitVec 5) (h : Head) (op : BusOp) (s : State) :
    Host.Outcome State Fault Refusal :=
  .next (runMicro ⟨h, .bus op (.fn .spcPush ma)⟩ s)

/-- DEST.OA-LO (R313). -/
def execDestOaLo (ma : BitVec 5) (h : Head) (op : BusOp) (s : State) :
    Host.Outcome State Fault Refusal :=
  .next (runMicro ⟨h, .bus op (.fn .oaLo ma)⟩ s)

/-- DEST.OA-HI (R314). -/
def execDestOaHi (ma : BitVec 5) (h : Head) (op : BusOp) (s : State) :
    Host.Outcome State Fault Refusal :=
  .next (runMicro ⟨h, .bus op (.fn .oaHi ma)⟩ s)

/-- DEST.VMA (R315). -/
def execDestVma (ma : BitVec 5) (h : Head) (op : BusOp) (s : State) :
    Host.Outcome State Fault Refusal :=
  .next (runMicro ⟨h, .bus op (.fn .vma ma)⟩ s)

/-- DEST.VMA-START-READ (R316). -/
def execDestVmaStartRead (ma : BitVec 5) (h : Head) (op : BusOp) (s : State) :
    Host.Outcome State Fault Refusal :=
  .next (runMicro ⟨h, .bus op (.fn .vmaStartRead ma)⟩ s)

/-- DEST.VMA-START-WRITE (R317). -/
def execDestVmaStartWrite (ma : BitVec 5) (h : Head) (op : BusOp) (s : State) :
    Host.Outcome State Fault Refusal :=
  .next (runMicro ⟨h, .bus op (.fn .vmaStartWrite ma)⟩ s)

/-- DEST.VMA-WRITE-MAP (R318). -/
def execDestVmaWriteMap (ma : BitVec 5) (h : Head) (op : BusOp) (s : State) :
    Host.Outcome State Fault Refusal :=
  .next (runMicro ⟨h, .bus op (.fn .vmaWriteMap ma)⟩ s)

/-- DEST.UNDEF.0o24 (R323): the M-memory capture alone (log 6). -/
def execDestUndef24 (ma : BitVec 5) (h : Head) (op : BusOp) (s : State) :
    Host.Outcome State Fault Refusal :=
  .next (runMicro ⟨h, .bus op (.fn .undef24 ma)⟩ s)

/-- DEST.UNDEF.0o25 (R323): the M-memory capture alone (log 6). -/
def execDestUndef25 (ma : BitVec 5) (h : Head) (op : BusOp) (s : State) :
    Host.Outcome State Fault Refusal :=
  .next (runMicro ⟨h, .bus op (.fn .undef25 ma)⟩ s)

/-- DEST.UNDEF.0o26 (R323): the M-memory capture alone (log 6). -/
def execDestUndef26 (ma : BitVec 5) (h : Head) (op : BusOp) (s : State) :
    Host.Outcome State Fault Refusal :=
  .next (runMicro ⟨h, .bus op (.fn .undef26 ma)⟩ s)

/-- DEST.UNDEF.0o27 (R323): the M-memory capture alone (log 6). -/
def execDestUndef27 (ma : BitVec 5) (h : Head) (op : BusOp) (s : State) :
    Host.Outcome State Fault Refusal :=
  .next (runMicro ⟨h, .bus op (.fn .undef27 ma)⟩ s)

/-- DEST.MD (R319). -/
def execDestMd (ma : BitVec 5) (h : Head) (op : BusOp) (s : State) :
    Host.Outcome State Fault Refusal :=
  .next (runMicro ⟨h, .bus op (.fn .md ma)⟩ s)

/-- DEST.MD-START-READ (R320). -/
def execDestMdStartRead (ma : BitVec 5) (h : Head) (op : BusOp) (s : State) :
    Host.Outcome State Fault Refusal :=
  .next (runMicro ⟨h, .bus op (.fn .mdStartRead ma)⟩ s)

/-- DEST.MD-START-WRITE (R321). -/
def execDestMdStartWrite (ma : BitVec 5) (h : Head) (op : BusOp) (s : State) :
    Host.Outcome State Fault Refusal :=
  .next (runMicro ⟨h, .bus op (.fn .mdStartWrite ma)⟩ s)

/-- DEST.MD-WRITE-MAP (R322). -/
def execDestMdWriteMap (ma : BitVec 5) (h : Head) (op : BusOp) (s : State) :
    Host.Outcome State Fault Refusal :=
  .next (runMicro ⟨h, .bus op (.fn .mdWriteMap ma)⟩ s)

/-- DEST.UNDEF.0o34 (R323): the M-memory capture alone (log 6). -/
def execDestUndef34 (ma : BitVec 5) (h : Head) (op : BusOp) (s : State) :
    Host.Outcome State Fault Refusal :=
  .next (runMicro ⟨h, .bus op (.fn .undef34 ma)⟩ s)

/-- DEST.UNDEF.0o35 (R323): the M-memory capture alone (log 6). -/
def execDestUndef35 (ma : BitVec 5) (h : Head) (op : BusOp) (s : State) :
    Host.Outcome State Fault Refusal :=
  .next (runMicro ⟨h, .bus op (.fn .undef35 ma)⟩ s)

/-- DEST.UNDEF.0o36 (R323): the M-memory capture alone (log 6). -/
def execDestUndef36 (ma : BitVec 5) (h : Head) (op : BusOp) (s : State) :
    Host.Outcome State Fault Refusal :=
  .next (runMicro ⟨h, .bus op (.fn .undef36 ma)⟩ s)

/-- DEST.UNDEF.0o37 (R323): the M-memory capture alone (log 6). -/
def execDestUndef37 (ma : BitVec 5) (h : Head) (op : BusOp) (s : State) :
    Host.Outcome State Fault Refusal :=
  .next (runMicro ⟨h, .bus op (.fn .undef37 ma)⟩ s)

/-- DEST.UNDEF.RESERVED-BIT (R323): the M-memory capture alone (log 6). -/
def execDestReserved (fd : BitVec 5) (ma : BitVec 5) (h : Head) (op : BusOp) (s : State) :
    Host.Outcome State Fault Refusal :=
  .next (runMicro ⟨h, .bus op (.reserved fd ma)⟩ s)

end Sys2Proof.Machine
end

