-- ==== Sys2Proof/Machine/DispatchClass.lean ====
section
/-! DEFINITION. Meanings. The DISPATCH class (44_dispatch.md). -/

namespace Sys2Proof.Machine

/-- DISPATCH (R270). -/
def execDispatch (h : Head) (b : DispBits) (s : State) :
    Host.Outcome State Fault Refusal :=
  .next (dispatchWord h ⟨.normal, b⟩ s)

/-- DISPATCH.MISC1 (R108): as `MISC = 0` (log 7). -/
def execDispatchMisc1 (h : Head) (b : DispBits) (s : State) :
    Host.Outcome State Fault Refusal :=
  .next (dispatchWord h ⟨.misc1, b⟩ s)

/-- DISPATCH.WRITE (R281). -/
def execDispatchWrite (h : Head) (b : DispBits) (s : State) :
    Host.Outcome State Fault Refusal :=
  .next (dispatchWord h ⟨.write, b⟩ s)

/-- DISPATCH.POSMOD (R272). -/
def execDispatchPosmod (h : Head) (b : DispBits) (s : State) :
    Host.Outcome State Fault Refusal :=
  .next (dispatchWord h ⟨.posmod, b⟩ s)

end Sys2Proof.Machine
end

