-- ==== Sys2Proof/Machine/Jump.lean ====
section
/-! DEFINITION. Meanings. The JUMP class: the conditions, the bit test, halt, self-write and the two undefined `MISC` values (43_jump.md). -/

namespace Sys2Proof.Machine

/-- JUMP.NEVER (R243). -/
def execJumpNever (h : Head) (j : JumpBits) (misc : JMisc) (r : Bool) (p : Bool) (b43 : BitVec 2) (s : State) :
    Host.Outcome State Fault Refusal :=
  .next (jumpWord h ⟨misc, r, p, .table .never b43, j⟩ s)

/-- JUMP.LT (R244). -/
def execJumpLt (h : Head) (j : JumpBits) (misc : JMisc) (r : Bool) (p : Bool) (b43 : BitVec 2) (s : State) :
    Host.Outcome State Fault Refusal :=
  .next (jumpWord h ⟨misc, r, p, .table .lt b43, j⟩ s)

/-- JUMP.LE (R245). -/
def execJumpLe (h : Head) (j : JumpBits) (misc : JMisc) (r : Bool) (p : Bool) (b43 : BitVec 2) (s : State) :
    Host.Outcome State Fault Refusal :=
  .next (jumpWord h ⟨misc, r, p, .table .le b43, j⟩ s)

/-- JUMP.EQ (R246). -/
def execJumpEq (h : Head) (j : JumpBits) (misc : JMisc) (r : Bool) (p : Bool) (b43 : BitVec 2) (s : State) :
    Host.Outcome State Fault Refusal :=
  .next (jumpWord h ⟨misc, r, p, .table .eq b43, j⟩ s)

/-- JUMP.PF (R247). -/
def execJumpPf (h : Head) (j : JumpBits) (misc : JMisc) (r : Bool) (p : Bool) (b43 : BitVec 2) (s : State) :
    Host.Outcome State Fault Refusal :=
  .next (jumpWord h ⟨misc, r, p, .table .pf b43, j⟩ s)

/-- JUMP.PFI (R248). -/
def execJumpPfi (h : Head) (j : JumpBits) (misc : JMisc) (r : Bool) (p : Bool) (b43 : BitVec 2) (s : State) :
    Host.Outcome State Fault Refusal :=
  .next (jumpWord h ⟨misc, r, p, .table .pfi b43, j⟩ s)

/-- JUMP.PFIS (R249). -/
def execJumpPfis (h : Head) (j : JumpBits) (misc : JMisc) (r : Bool) (p : Bool) (b43 : BitVec 2) (s : State) :
    Host.Outcome State Fault Refusal :=
  .next (jumpWord h ⟨misc, r, p, .table .pfis b43, j⟩ s)

/-- JUMP.ALWAYS (R250). -/
def execJumpAlways (h : Head) (j : JumpBits) (misc : JMisc) (r : Bool) (p : Bool) (b43 : BitVec 2) (s : State) :
    Host.Outcome State Fault Refusal :=
  .next (jumpWord h ⟨misc, r, p, .table .always b43, j⟩ s)

/-- JUMP.BIT (R251). -/
def execJumpBit (h : Head) (j : JumpBits) (misc : JMisc) (r : Bool) (p : Bool) (rot : BitVec 5) (s : State) :
    Host.Outcome State Fault Refusal :=
  .next (jumpWord h ⟨misc, r, p, .bit rot, j⟩ s)

/-- JUMP.HALT (R252). -/
def execJumpHalt (h : Head) (j : JumpBits) (r : Bool) (p : Bool) (t : JTest) (s : State) :
    Host.Outcome State Fault Refusal :=
  .next (jumpWord h ⟨.halt, r, p, t, j⟩ s)

/-- JUMP.WRITE-UCODE (R257). -/
def execJumpWriteUcode (h : Head) (j : JumpBits) (misc : JMisc) (t : JTest) (s : State) :
    Host.Outcome State Fault Refusal :=
  .next (jumpWord h ⟨misc, true, true, t, j⟩ s)

/-- JUMP.MISC2 (R259): as `MISC = 0` (log 7). -/
def execJumpMisc2 (h : Head) (j : JumpBits) (r : Bool) (p : Bool) (t : JTest) (s : State) :
    Host.Outcome State Fault Refusal :=
  .next (jumpWord h ⟨.misc2, r, p, t, j⟩ s)

/-- JUMP.MISC3 (R259): as `MISC = 0` (log 7). -/
def execJumpMisc3 (h : Head) (j : JumpBits) (r : Bool) (p : Bool) (t : JTest) (s : State) :
    Host.Outcome State Fault Refusal :=
  .next (jumpWord h ⟨.misc3, r, p, t, j⟩ s)

end Sys2Proof.Machine
end

