-- ==== Sys2Proof/Machine/Sources.lean ====
section
/-! DEFINITION. Meanings. Words seen from their M-source row (R152, R154 to R168). A meaning covers every class and form of word that reads
that source; a dispatch-memory write reads none (R281). -/

namespace Sys2Proof.Machine

/-- MSRC.M (R152). -/
def execMsrcM (a : BitVec 5) (g : Ignored) (pj : Bool) (body : Body) (s : State) :
    Host.Outcome State Fault Refusal :=
  .next (runMicro ⟨⟨g, pj, .m a⟩, body⟩ s)

/-- MSRC.DISPATCH-CONSTANT (R154). -/
def execMsrcDispatchConstant (g : Ignored) (pj : Bool) (body : Body) (s : State) :
    Host.Outcome State Fault Refusal :=
  .next (runMicro ⟨⟨g, pj, .fs .dispatchConstant⟩, body⟩ s)

/-- MSRC.SPC-PTR-AND-DATA (R155). -/
def execMsrcSpcPtrAndData (g : Ignored) (pj : Bool) (body : Body) (s : State) :
    Host.Outcome State Fault Refusal :=
  .next (runMicro ⟨⟨g, pj, .fs .spcPtrAndData⟩, body⟩ s)

/-- MSRC.PDL-POINTER (R156). -/
def execMsrcPdlPointer (g : Ignored) (pj : Bool) (body : Body) (s : State) :
    Host.Outcome State Fault Refusal :=
  .next (runMicro ⟨⟨g, pj, .fs .pdlPointer⟩, body⟩ s)

/-- MSRC.PDL-INDEX (R157). -/
def execMsrcPdlIndex (g : Ignored) (pj : Bool) (body : Body) (s : State) :
    Host.Outcome State Fault Refusal :=
  .next (runMicro ⟨⟨g, pj, .fs .pdlIndex⟩, body⟩ s)

/-- MSRC.UNDEF.0o04 (R168): a free value (log 5). -/
def execMsrcUndef04 (g : Ignored) (pj : Bool) (body : Body) (s : State) :
    Host.Outcome State Fault Refusal :=
  .next (runMicro ⟨⟨g, pj, .fs .undef04⟩, body⟩ s)

/-- MSRC.PDL-BUFFER-INDEX (R158). -/
def execMsrcPdlBufferIndex (g : Ignored) (pj : Bool) (body : Body) (s : State) :
    Host.Outcome State Fault Refusal :=
  .next (runMicro ⟨⟨g, pj, .fs .pdlBufferIndex⟩, body⟩ s)

/-- MSRC.OPC (R159). -/
def execMsrcOpc (g : Ignored) (pj : Bool) (body : Body) (s : State) :
    Host.Outcome State Fault Refusal :=
  .next (runMicro ⟨⟨g, pj, .fs .opc⟩, body⟩ s)

/-- MSRC.Q (R160). -/
def execMsrcQ (g : Ignored) (pj : Bool) (body : Body) (s : State) :
    Host.Outcome State Fault Refusal :=
  .next (runMicro ⟨⟨g, pj, .fs .q⟩, body⟩ s)

/-- MSRC.VMA (R161). -/
def execMsrcVma (g : Ignored) (pj : Bool) (body : Body) (s : State) :
    Host.Outcome State Fault Refusal :=
  .next (runMicro ⟨⟨g, pj, .fs .vma⟩, body⟩ s)

/-- MSRC.MAP-MD (R162). -/
def execMsrcMapMd (g : Ignored) (pj : Bool) (body : Body) (s : State) :
    Host.Outcome State Fault Refusal :=
  .next (runMicro ⟨⟨g, pj, .fs .mapMd⟩, body⟩ s)

/-- MSRC.MD (R163). -/
def execMsrcMd (g : Ignored) (pj : Bool) (body : Body) (s : State) :
    Host.Outcome State Fault Refusal :=
  .next (runMicro ⟨⟨g, pj, .fs .md⟩, body⟩ s)

/-- MSRC.LC (R164). -/
def execMsrcLc (g : Ignored) (pj : Bool) (body : Body) (s : State) :
    Host.Outcome State Fault Refusal :=
  .next (runMicro ⟨⟨g, pj, .fs .lc⟩, body⟩ s)

/-- MSRC.SPC-PTR-AND-DATA-POP (R165). -/
def execMsrcSpcPtrAndDataPop (g : Ignored) (pj : Bool) (body : Body) (s : State) :
    Host.Outcome State Fault Refusal :=
  .next (runMicro ⟨⟨g, pj, .fs .spcPtrAndDataPop⟩, body⟩ s)

/-- MSRC.UNDEF.0o15 (R168): a free value (log 5). -/
def execMsrcUndef15 (g : Ignored) (pj : Bool) (body : Body) (s : State) :
    Host.Outcome State Fault Refusal :=
  .next (runMicro ⟨⟨g, pj, .fs .undef15⟩, body⟩ s)

/-- MSRC.UNDEF.0o16 (R168): a free value (log 5). -/
def execMsrcUndef16 (g : Ignored) (pj : Bool) (body : Body) (s : State) :
    Host.Outcome State Fault Refusal :=
  .next (runMicro ⟨⟨g, pj, .fs .undef16⟩, body⟩ s)

/-- MSRC.UNDEF.0o17 (R168): a free value (log 5). -/
def execMsrcUndef17 (g : Ignored) (pj : Bool) (body : Body) (s : State) :
    Host.Outcome State Fault Refusal :=
  .next (runMicro ⟨⟨g, pj, .fs .undef17⟩, body⟩ s)

/-- MSRC.UNDEF.0o20 (R168): a free value (log 5). -/
def execMsrcUndef20 (g : Ignored) (pj : Bool) (body : Body) (s : State) :
    Host.Outcome State Fault Refusal :=
  .next (runMicro ⟨⟨g, pj, .fs .undef20⟩, body⟩ s)

/-- MSRC.UNDEF.0o21 (R168): a free value (log 5). -/
def execMsrcUndef21 (g : Ignored) (pj : Bool) (body : Body) (s : State) :
    Host.Outcome State Fault Refusal :=
  .next (runMicro ⟨⟨g, pj, .fs .undef21⟩, body⟩ s)

/-- MSRC.UNDEF.0o22 (R168): a free value (log 5). -/
def execMsrcUndef22 (g : Ignored) (pj : Bool) (body : Body) (s : State) :
    Host.Outcome State Fault Refusal :=
  .next (runMicro ⟨⟨g, pj, .fs .undef22⟩, body⟩ s)

/-- MSRC.UNDEF.0o23 (R168): a free value (log 5). -/
def execMsrcUndef23 (g : Ignored) (pj : Bool) (body : Body) (s : State) :
    Host.Outcome State Fault Refusal :=
  .next (runMicro ⟨⟨g, pj, .fs .undef23⟩, body⟩ s)

/-- MSRC.PDL-BUFFER-POINTER-POP (R166). -/
def execMsrcPdlBufferPointerPop (g : Ignored) (pj : Bool) (body : Body) (s : State) :
    Host.Outcome State Fault Refusal :=
  .next (runMicro ⟨⟨g, pj, .fs .pdlBufferPointerPop⟩, body⟩ s)

/-- MSRC.PDL-BUFFER-POINTER (R167). -/
def execMsrcPdlBufferPointer (g : Ignored) (pj : Bool) (body : Body) (s : State) :
    Host.Outcome State Fault Refusal :=
  .next (runMicro ⟨⟨g, pj, .fs .pdlBufferPointer⟩, body⟩ s)

/-- MSRC.UNDEF.0o26 (R168): a free value (log 5). -/
def execMsrcUndef26 (g : Ignored) (pj : Bool) (body : Body) (s : State) :
    Host.Outcome State Fault Refusal :=
  .next (runMicro ⟨⟨g, pj, .fs .undef26⟩, body⟩ s)

/-- MSRC.UNDEF.0o27 (R168): a free value (log 5). -/
def execMsrcUndef27 (g : Ignored) (pj : Bool) (body : Body) (s : State) :
    Host.Outcome State Fault Refusal :=
  .next (runMicro ⟨⟨g, pj, .fs .undef27⟩, body⟩ s)

/-- MSRC.UNDEF.0o30 (R168): a free value (log 5). -/
def execMsrcUndef30 (g : Ignored) (pj : Bool) (body : Body) (s : State) :
    Host.Outcome State Fault Refusal :=
  .next (runMicro ⟨⟨g, pj, .fs .undef30⟩, body⟩ s)

/-- MSRC.UNDEF.0o31 (R168): a free value (log 5). -/
def execMsrcUndef31 (g : Ignored) (pj : Bool) (body : Body) (s : State) :
    Host.Outcome State Fault Refusal :=
  .next (runMicro ⟨⟨g, pj, .fs .undef31⟩, body⟩ s)

/-- MSRC.UNDEF.0o32 (R168): a free value (log 5). -/
def execMsrcUndef32 (g : Ignored) (pj : Bool) (body : Body) (s : State) :
    Host.Outcome State Fault Refusal :=
  .next (runMicro ⟨⟨g, pj, .fs .undef32⟩, body⟩ s)

/-- MSRC.UNDEF.0o33 (R168): a free value (log 5). -/
def execMsrcUndef33 (g : Ignored) (pj : Bool) (body : Body) (s : State) :
    Host.Outcome State Fault Refusal :=
  .next (runMicro ⟨⟨g, pj, .fs .undef33⟩, body⟩ s)

/-- MSRC.UNDEF.0o34 (R168): a free value (log 5). -/
def execMsrcUndef34 (g : Ignored) (pj : Bool) (body : Body) (s : State) :
    Host.Outcome State Fault Refusal :=
  .next (runMicro ⟨⟨g, pj, .fs .undef34⟩, body⟩ s)

/-- MSRC.UNDEF.0o35 (R168): a free value (log 5). -/
def execMsrcUndef35 (g : Ignored) (pj : Bool) (body : Body) (s : State) :
    Host.Outcome State Fault Refusal :=
  .next (runMicro ⟨⟨g, pj, .fs .undef35⟩, body⟩ s)

/-- MSRC.UNDEF.0o36 (R168): a free value (log 5). -/
def execMsrcUndef36 (g : Ignored) (pj : Bool) (body : Body) (s : State) :
    Host.Outcome State Fault Refusal :=
  .next (runMicro ⟨⟨g, pj, .fs .undef36⟩, body⟩ s)

/-- MSRC.UNDEF.0o37 (R168): a free value (log 5). -/
def execMsrcUndef37 (g : Ignored) (pj : Bool) (body : Body) (s : State) :
    Host.Outcome State Fault Refusal :=
  .next (runMicro ⟨⟨g, pj, .fs .undef37⟩, body⟩ s)

end Sys2Proof.Machine
end

