-- ==== Sys2Proof/Machine/Dispatch.lean ====
section
/-! DEFINITION. One arm per constructor of `Instr`, each one call of the instruction's meaning. -/

namespace Sys2Proof.Machine

def exec (i : Instr) (s : State) : Host.Outcome State Fault Refusal :=
  match i with
  | .nop b47 b12 => Sys2Proof.Machine.execNop b47 b12 s
  | .aluSetz h d b ob qc => Sys2Proof.Machine.execAluSetz h d b ob qc s
  | .aluAnd h d b ob qc => Sys2Proof.Machine.execAluAnd h d b ob qc s
  | .aluAndca h d b ob qc => Sys2Proof.Machine.execAluAndca h d b ob qc s
  | .aluSetm h d b ob qc => Sys2Proof.Machine.execAluSetm h d b ob qc s
  | .aluAndcm h d b ob qc => Sys2Proof.Machine.execAluAndcm h d b ob qc s
  | .aluSeta h d b ob qc => Sys2Proof.Machine.execAluSeta h d b ob qc s
  | .aluXor h d b ob qc => Sys2Proof.Machine.execAluXor h d b ob qc s
  | .aluIor h d b ob qc => Sys2Proof.Machine.execAluIor h d b ob qc s
  | .aluAndcb h d b ob qc => Sys2Proof.Machine.execAluAndcb h d b ob qc s
  | .aluEqv h d b ob qc => Sys2Proof.Machine.execAluEqv h d b ob qc s
  | .aluSetca h d b ob qc => Sys2Proof.Machine.execAluSetca h d b ob qc s
  | .aluOrca h d b ob qc => Sys2Proof.Machine.execAluOrca h d b ob qc s
  | .aluSetcm h d b ob qc => Sys2Proof.Machine.execAluSetcm h d b ob qc s
  | .aluOrcm h d b ob qc => Sys2Proof.Machine.execAluOrcm h d b ob qc s
  | .aluOrcb h d b ob qc => Sys2Proof.Machine.execAluOrcb h d b ob qc s
  | .aluSeto h d b ob qc => Sys2Proof.Machine.execAluSeto h d b ob qc s
  | .aluA20 h d b ob qc => Sys2Proof.Machine.execAluA20 h d b ob qc s
  | .aluA21 h d b ob qc => Sys2Proof.Machine.execAluA21 h d b ob qc s
  | .aluA22 h d b ob qc => Sys2Proof.Machine.execAluA22 h d b ob qc s
  | .aluA23 h d b ob qc => Sys2Proof.Machine.execAluA23 h d b ob qc s
  | .aluA24 h d b ob qc => Sys2Proof.Machine.execAluA24 h d b ob qc s
  | .aluA25 h d b ob qc => Sys2Proof.Machine.execAluA25 h d b ob qc s
  | .aluSub h d b ob qc => Sys2Proof.Machine.execAluSub h d b ob qc s
  | .aluA27 h d b ob qc => Sys2Proof.Machine.execAluA27 h d b ob qc s
  | .aluA30 h d b ob qc => Sys2Proof.Machine.execAluA30 h d b ob qc s
  | .aluAdd h d b ob qc => Sys2Proof.Machine.execAluAdd h d b ob qc s
  | .aluA32 h d b ob qc => Sys2Proof.Machine.execAluA32 h d b ob qc s
  | .aluA33 h d b ob qc => Sys2Proof.Machine.execAluA33 h d b ob qc s
  | .aluIncm h d b ob qc => Sys2Proof.Machine.execAluIncm h d b ob qc s
  | .aluA35 h d b ob qc => Sys2Proof.Machine.execAluA35 h d b ob qc s
  | .aluA36 h d b ob qc => Sys2Proof.Machine.execAluA36 h d b ob qc s
  | .aluLshm h d b ob qc => Sys2Proof.Machine.execAluLshm h d b ob qc s
  | .aluMul h d b ob qc => Sys2Proof.Machine.execAluMul h d b ob qc s
  | .aluDiv h d b ob qc => Sys2Proof.Machine.execAluDiv h d b ob qc s
  | .aluUndef42 h d b ob qc => Sys2Proof.Machine.execAluUndef42 h d b ob qc s
  | .aluUndef43 h d b ob qc => Sys2Proof.Machine.execAluUndef43 h d b ob qc s
  | .aluUndef44 h d b ob qc => Sys2Proof.Machine.execAluUndef44 h d b ob qc s
  | .aluDivrc h d b ob qc => Sys2Proof.Machine.execAluDivrc h d b ob qc s
  | .aluUndef46 h d b ob qc => Sys2Proof.Machine.execAluUndef46 h d b ob qc s
  | .aluUndef47 h d b ob qc => Sys2Proof.Machine.execAluUndef47 h d b ob qc s
  | .aluUndef50 h d b ob qc => Sys2Proof.Machine.execAluUndef50 h d b ob qc s
  | .aluDivfs h d b ob qc => Sys2Proof.Machine.execAluDivfs h d b ob qc s
  | .aluUndef52 h d b ob qc => Sys2Proof.Machine.execAluUndef52 h d b ob qc s
  | .aluUndef53 h d b ob qc => Sys2Proof.Machine.execAluUndef53 h d b ob qc s
  | .aluUndef54 h d b ob qc => Sys2Proof.Machine.execAluUndef54 h d b ob qc s
  | .aluUndef55 h d b ob qc => Sys2Proof.Machine.execAluUndef55 h d b ob qc s
  | .aluUndef56 h d b ob qc => Sys2Proof.Machine.execAluUndef56 h d b ob qc s
  | .aluUndef57 h d b ob qc => Sys2Proof.Machine.execAluUndef57 h d b ob qc s
  | .aluUndef60 h d b ob qc => Sys2Proof.Machine.execAluUndef60 h d b ob qc s
  | .aluUndef61 h d b ob qc => Sys2Proof.Machine.execAluUndef61 h d b ob qc s
  | .aluUndef62 h d b ob qc => Sys2Proof.Machine.execAluUndef62 h d b ob qc s
  | .aluUndef63 h d b ob qc => Sys2Proof.Machine.execAluUndef63 h d b ob qc s
  | .aluUndef64 h d b ob qc => Sys2Proof.Machine.execAluUndef64 h d b ob qc s
  | .aluUndef65 h d b ob qc => Sys2Proof.Machine.execAluUndef65 h d b ob qc s
  | .aluUndef66 h d b ob qc => Sys2Proof.Machine.execAluUndef66 h d b ob qc s
  | .aluUndef67 h d b ob qc => Sys2Proof.Machine.execAluUndef67 h d b ob qc s
  | .aluUndef70 h d b ob qc => Sys2Proof.Machine.execAluUndef70 h d b ob qc s
  | .aluUndef71 h d b ob qc => Sys2Proof.Machine.execAluUndef71 h d b ob qc s
  | .aluUndef72 h d b ob qc => Sys2Proof.Machine.execAluUndef72 h d b ob qc s
  | .aluUndef73 h d b ob qc => Sys2Proof.Machine.execAluUndef73 h d b ob qc s
  | .aluUndef74 h d b ob qc => Sys2Proof.Machine.execAluUndef74 h d b ob qc s
  | .aluUndef75 h d b ob qc => Sys2Proof.Machine.execAluUndef75 h d b ob qc s
  | .aluUndef76 h d b ob qc => Sys2Proof.Machine.execAluUndef76 h d b ob qc s
  | .aluUndef77 h d b ob qc => Sys2Proof.Machine.execAluUndef77 h d b ob qc s
  | .obUndef h d b fn qc => Sys2Proof.Machine.execObUndef h d b fn qc s
  | .obAlu h d b fn qc => Sys2Proof.Machine.execObAlu h d b fn qc s
  | .obR1 h d b fn qc => Sys2Proof.Machine.execObR1 h d b fn qc s
  | .obL1 h d b fn qc => Sys2Proof.Machine.execObL1 h d b fn qc s
  | .qcNone h d b fn ob => Sys2Proof.Machine.execQcNone h d b fn ob s
  | .qcQl h d b fn ob => Sys2Proof.Machine.execQcQl h d b fn ob s
  | .qcQr h d b fn ob => Sys2Proof.Machine.execQcQr h d b fn ob s
  | .qcQload h d b fn ob => Sys2Proof.Machine.execQcQload h d b fn ob s
  | .jumpNever h j misc r p b43 => Sys2Proof.Machine.execJumpNever h j misc r p b43 s
  | .jumpLt h j misc r p b43 => Sys2Proof.Machine.execJumpLt h j misc r p b43 s
  | .jumpLe h j misc r p b43 => Sys2Proof.Machine.execJumpLe h j misc r p b43 s
  | .jumpEq h j misc r p b43 => Sys2Proof.Machine.execJumpEq h j misc r p b43 s
  | .jumpPf h j misc r p b43 => Sys2Proof.Machine.execJumpPf h j misc r p b43 s
  | .jumpPfi h j misc r p b43 => Sys2Proof.Machine.execJumpPfi h j misc r p b43 s
  | .jumpPfis h j misc r p b43 => Sys2Proof.Machine.execJumpPfis h j misc r p b43 s
  | .jumpAlways h j misc r p b43 => Sys2Proof.Machine.execJumpAlways h j misc r p b43 s
  | .jumpBit h j misc r p rot => Sys2Proof.Machine.execJumpBit h j misc r p rot s
  | .jumpHalt h j r p t => Sys2Proof.Machine.execJumpHalt h j r p t s
  | .jumpWriteUcode h j misc t => Sys2Proof.Machine.execJumpWriteUcode h j misc t s
  | .jumpMisc2 h j r p t => Sys2Proof.Machine.execJumpMisc2 h j r p t s
  | .jumpMisc3 h j r p t => Sys2Proof.Machine.execJumpMisc3 h j r p t s
  | .dispatch h b => Sys2Proof.Machine.execDispatch h b s
  | .dispatchMisc1 h b => Sys2Proof.Machine.execDispatchMisc1 h b s
  | .dispatchWrite h b => Sys2Proof.Machine.execDispatchWrite h b s
  | .dispatchPosmod h b => Sys2Proof.Machine.execDispatchPosmod h b s
  | .byteUndef h d b => Sys2Proof.Machine.execByteUndef h d b s
  | .byteLdb h d b => Sys2Proof.Machine.execByteLdb h d b s
  | .byteSel h d b => Sys2Proof.Machine.execByteSel h d b s
  | .byteDpb h d b => Sys2Proof.Machine.execByteDpb h d b s
  | .popj g src body => Sys2Proof.Machine.execPopj g src body s
  | .msrcM a g pj body => Sys2Proof.Machine.execMsrcM a g pj body s
  | .msrcDispatchConstant g pj body => Sys2Proof.Machine.execMsrcDispatchConstant g pj body s
  | .msrcSpcPtrAndData g pj body => Sys2Proof.Machine.execMsrcSpcPtrAndData g pj body s
  | .msrcPdlPointer g pj body => Sys2Proof.Machine.execMsrcPdlPointer g pj body s
  | .msrcPdlIndex g pj body => Sys2Proof.Machine.execMsrcPdlIndex g pj body s
  | .msrcUndef04 g pj body => Sys2Proof.Machine.execMsrcUndef04 g pj body s
  | .msrcPdlBufferIndex g pj body => Sys2Proof.Machine.execMsrcPdlBufferIndex g pj body s
  | .msrcOpc g pj body => Sys2Proof.Machine.execMsrcOpc g pj body s
  | .msrcQ g pj body => Sys2Proof.Machine.execMsrcQ g pj body s
  | .msrcVma g pj body => Sys2Proof.Machine.execMsrcVma g pj body s
  | .msrcMapMd g pj body => Sys2Proof.Machine.execMsrcMapMd g pj body s
  | .msrcMd g pj body => Sys2Proof.Machine.execMsrcMd g pj body s
  | .msrcLc g pj body => Sys2Proof.Machine.execMsrcLc g pj body s
  | .msrcSpcPtrAndDataPop g pj body => Sys2Proof.Machine.execMsrcSpcPtrAndDataPop g pj body s
  | .msrcUndef15 g pj body => Sys2Proof.Machine.execMsrcUndef15 g pj body s
  | .msrcUndef16 g pj body => Sys2Proof.Machine.execMsrcUndef16 g pj body s
  | .msrcUndef17 g pj body => Sys2Proof.Machine.execMsrcUndef17 g pj body s
  | .msrcUndef20 g pj body => Sys2Proof.Machine.execMsrcUndef20 g pj body s
  | .msrcUndef21 g pj body => Sys2Proof.Machine.execMsrcUndef21 g pj body s
  | .msrcUndef22 g pj body => Sys2Proof.Machine.execMsrcUndef22 g pj body s
  | .msrcUndef23 g pj body => Sys2Proof.Machine.execMsrcUndef23 g pj body s
  | .msrcPdlBufferPointerPop g pj body => Sys2Proof.Machine.execMsrcPdlBufferPointerPop g pj body s
  | .msrcPdlBufferPointer g pj body => Sys2Proof.Machine.execMsrcPdlBufferPointer g pj body s
  | .msrcUndef26 g pj body => Sys2Proof.Machine.execMsrcUndef26 g pj body s
  | .msrcUndef27 g pj body => Sys2Proof.Machine.execMsrcUndef27 g pj body s
  | .msrcUndef30 g pj body => Sys2Proof.Machine.execMsrcUndef30 g pj body s
  | .msrcUndef31 g pj body => Sys2Proof.Machine.execMsrcUndef31 g pj body s
  | .msrcUndef32 g pj body => Sys2Proof.Machine.execMsrcUndef32 g pj body s
  | .msrcUndef33 g pj body => Sys2Proof.Machine.execMsrcUndef33 g pj body s
  | .msrcUndef34 g pj body => Sys2Proof.Machine.execMsrcUndef34 g pj body s
  | .msrcUndef35 g pj body => Sys2Proof.Machine.execMsrcUndef35 g pj body s
  | .msrcUndef36 g pj body => Sys2Proof.Machine.execMsrcUndef36 g pj body s
  | .msrcUndef37 g pj body => Sys2Proof.Machine.execMsrcUndef37 g pj body s
  | .destA b24 addr h op => Sys2Proof.Machine.execDestA b24 addr h op s
  | .destNone ma h op => Sys2Proof.Machine.execDestNone ma h op s
  | .destLc ma h op => Sys2Proof.Machine.execDestLc ma h op s
  | .destInterruptControl ma h op => Sys2Proof.Machine.execDestInterruptControl ma h op s
  | .destUndef03 ma h op => Sys2Proof.Machine.execDestUndef03 ma h op s
  | .destUndef04 ma h op => Sys2Proof.Machine.execDestUndef04 ma h op s
  | .destUndef05 ma h op => Sys2Proof.Machine.execDestUndef05 ma h op s
  | .destUndef06 ma h op => Sys2Proof.Machine.execDestUndef06 ma h op s
  | .destUndef07 ma h op => Sys2Proof.Machine.execDestUndef07 ma h op s
  | .destPdlByPointer ma h op => Sys2Proof.Machine.execDestPdlByPointer ma h op s
  | .destPdlByPointerPush ma h op => Sys2Proof.Machine.execDestPdlByPointerPush ma h op s
  | .destPdlByIndex ma h op => Sys2Proof.Machine.execDestPdlByIndex ma h op s
  | .destPdlIndex ma h op => Sys2Proof.Machine.execDestPdlIndex ma h op s
  | .destPdlPointer ma h op => Sys2Proof.Machine.execDestPdlPointer ma h op s
  | .destSpcPush ma h op => Sys2Proof.Machine.execDestSpcPush ma h op s
  | .destOaLo ma h op => Sys2Proof.Machine.execDestOaLo ma h op s
  | .destOaHi ma h op => Sys2Proof.Machine.execDestOaHi ma h op s
  | .destVma ma h op => Sys2Proof.Machine.execDestVma ma h op s
  | .destVmaStartRead ma h op => Sys2Proof.Machine.execDestVmaStartRead ma h op s
  | .destVmaStartWrite ma h op => Sys2Proof.Machine.execDestVmaStartWrite ma h op s
  | .destVmaWriteMap ma h op => Sys2Proof.Machine.execDestVmaWriteMap ma h op s
  | .destUndef24 ma h op => Sys2Proof.Machine.execDestUndef24 ma h op s
  | .destUndef25 ma h op => Sys2Proof.Machine.execDestUndef25 ma h op s
  | .destUndef26 ma h op => Sys2Proof.Machine.execDestUndef26 ma h op s
  | .destUndef27 ma h op => Sys2Proof.Machine.execDestUndef27 ma h op s
  | .destMd ma h op => Sys2Proof.Machine.execDestMd ma h op s
  | .destMdStartRead ma h op => Sys2Proof.Machine.execDestMdStartRead ma h op s
  | .destMdStartWrite ma h op => Sys2Proof.Machine.execDestMdStartWrite ma h op s
  | .destMdWriteMap ma h op => Sys2Proof.Machine.execDestMdWriteMap ma h op s
  | .destUndef34 ma h op => Sys2Proof.Machine.execDestUndef34 ma h op s
  | .destUndef35 ma h op => Sys2Proof.Machine.execDestUndef35 ma h op s
  | .destUndef36 ma h op => Sys2Proof.Machine.execDestUndef36 ma h op s
  | .destUndef37 ma h op => Sys2Proof.Machine.execDestUndef37 ma h op s
  | .destReserved fd ma h op => Sys2Proof.Machine.execDestReserved fd ma h op s

end Sys2Proof.Machine
end

