-- ==== Sys2Proof/Machine/Step.lean ====
section
/-! DEFINITION. One step: one cycle of a running engine (R130), nothing when halted (R146). -/

namespace Sys2Proof.Machine

/-- One cycle (R130): everything before the NOP test, then the word in `p0`, decoded. A halted core performs no
cycle and keeps every value (R146; log 25). -/
def step (s : State) : Host.Outcome State Fault Refusal :=
  if s.run then
    let t := prepare s
    exec (decode t.p0) t
  else .next s

/-- `s` with a word where the next step takes its instruction from: the prefetched word `p1` of a running engine, with
no stall and no instruction-modify pending (R130, R135; log 12, log 30). -/
def State.withFetchWord (s : State) (nbits w : Nat) : State :=
  { s with p1 := BitVec.ofNat 48 (w % 2 ^ nbits), noExecNext := false, oaLoSet := false, oaHiSet := false, run := true }

end Sys2Proof.Machine
end

