-- ==== Sys2Proof/Machine/HostPort.lean ====
section
/-! DEFINITION. What the host may do to the core between cycles (R90, R390, R393 to R397). None of it is part of a
step; `State.reset` is the state before any of it. -/

namespace Sys2Proof.Machine

/-- `run()` enters the engine loop: it sets `run` (R396); the loop itself is `step` repeated while `run` is 1. -/
def hostRun (s : State) : State := { s with run := true }

/-- `read_a_mem(i)` (R396). -/
def hostReadA (s : State) (i : BitVec 10) : Word := readAMem s i

/-- `read_m_mem(i)` (R396). -/
def hostReadM (s : State) (i : BitVec 5) : Word := readMMem s i

/-- `write_a_mem(i, v)`: A-memory alone, even below 32 (R396). -/
def hostWriteA (i : BitVec 10) (v : Word) (s : State) : State := writeAMem i v s

/-- The words of an image put into a store from an index on. -/
def loadWords (m : Store 48) (at_ : Nat) (words : List Microword) : Store 48 :=
  match words with
  | [] => m
  | w :: rest => loadWords (m.set at_ w) (at_ + 1) rest

/-- The boot PROM filled with an image of at most 512 words; the others hold 0 (R393). -/
def loadProm (words : List Microword) (s : State) : State := { s with prom := loadWords [] 0 (words.take 512) }

/-- A preload of the writable store from an address on, at most to its end (R394). -/
def loadUcode (start : MicroPc) (words : List Microword) (s : State) : State :=
  { s with ucode := loadWords s.ucode start.toNat (words.take (16384 - start.toNat)) }

/-- A word of the flat snapshot: page, offset, word (R90). -/
abbrev SnapshotWord : Type := BitVec 13 × BitVec 8 × Word

/-- The memory a snapshot's words make. -/
def snapshotMem (words : List SnapshotWord) : List Host.Cell :=
  match words with
  | [] => []
  | (p, o, v) :: rest => writeWord (snapshotMem rest) (cellKey (p.setWidth 14) o) v

/-- Restore of a flat snapshot: afterwards all of the first 8192 pages exist, hold the snapshot's words, and 0 where
it lists none; nothing else changes (R90, R397). -/
def snapshotRestore (words : List SnapshotWord) (s : State) : State :=
  { s with pages := List.range 8192, mem := snapshotMem words }

/-- A word of the snapshot that is saved now: pages that do not exist are dumped as zeros (R90; log 28). -/
def snapshotWord (s : State) (p : BitVec 13) (o : BitVec 8) : Word := physWord s (p.setWidth 14) o

end Sys2Proof.Machine
end

