-- ==== Sys2Proof/Safety.lean ====
section
/-! DEFINITION. The terms the statements use: the invariant of the machine, and what a device may change. -/

namespace Sys2Proof.Machine

/-- What every step keeps: the sizes of the memories with their canonical form, the page set and its limit, cells only
in allocated pages, the pending flag as the function of the ISR that R361 says it is, ISR bit 1 always 0 (R360), LC
bit 30 never written (R20), rings no longer than their depth (R44). -/
structure State.Inv (s : State) : Prop where
  aMem : Store.wf 1024 s.aMem = true
  mMem : Store.wf 32 s.mMem = true
  pdl : Store.wf 1024 s.pdl = true
  spc : Store.wf 32 s.spc = true
  dmem : Store.wf 2048 s.dmem = true
  ucode : Store.wf 16384 s.ucode = true
  prom : Store.wf 512 s.prom = true
  l1 : Store.wf 2048 s.l1 = true
  l2 : Store.wf 1024 s.l2 = true
  pages : pagesWf s.pages = true
  mem : Memory.wf s.mem = true
  memPages : (s.mem.all fun c => s.pages.contains (c.1 / 1024)) = true
  pending : s.interruptPending = isrPending s.isr
  isrBit1 : s.isr.getLsbD 1 = false
  lcBit30 : s.lc.getLsbD 30 = false
  pcHistory : s.pcHistory.length ≤ s.pcHistoryDepth
  macroHistory : s.macroHistory.length ≤ s.pcHistoryDepth

/-- `t` is `s` but for what a poll or a register access may change (R371 to R373, R396): A-memory, the interrupt
status, the pages and the memory, the PROM enable (by DMA to the unibus page, log 22), and the device lists. -/
def deviceFrame (s t : State) : Prop :=
  t = { s with
    aMem := t.aMem
    isr := t.isr
    interruptPending := t.interruptPending
    pages := t.pages
    mem := t.mem
    promEnabled := t.promEnabled
    devAnswers := t.devAnswers
    devLog := t.devLog
    freeCount := t.freeCount
    pollFast := t.pollFast
    pollSlow := t.pollSlow }

/-- An instruction after its M-source read gave `m` (R144): what is left to do, for each class. A dispatch-memory
write does not look at `m` (R281). -/
def afterRead (popj : Bool) (body : Body) (m : Word) (s : State) : State :=
  match body with
  | .bus op d => finishBus popj op d m s
  | .jump op => finishJump popj op m s
  | .disp op =>
    match op.kind with
    | .write => dispatchWrite popj op.bits s
    | kind => finishDispatch popj kind op.bits m s

/-- The instruction is a dispatch-memory write, which reads no M-source (R281). -/
def isDispatchWrite (body : Body) : Bool :=
  match body with
  | .disp op => op.kind == .write
  | _ => false

end Sys2Proof.Machine
end

