-- ==== Sys2Proof/Certificates/Slice0/Obligations.lean ====
section
/-! DEFINITION. The statements for the provers. `Sys2Proof.Ruled` holds what the statements are written with: the
results of the rules of `spec/`, written again from the rules, with integers, shifts and masks where the model uses
fields. Most rules of this spec carry a mark that they are the spec's own decision (D1 to D46, log 11); a statement
that rests on one has basis `derived`, and its docstring says so. -/

namespace Sys2Proof.Ruled

open Sys2Proof.Machine

/-! ### ALU class -/

/-- The output bus (R222 to R226), with Q as it was before; none for the undefined selector. -/
def bus (ob : OutSel) (out : Word) (carry : Bool) (oldQ : Word) : Option Word :=
  match ob with
  | .undef => none
  | .alu => some out
  | .r1 => some ((out >>> 1) ||| ((flagBit carry).setWidth 32 <<< 31))
  | .l1 => some ((out <<< 1) ||| (oldQ >>> 31))

/-- Q after the instruction (R227 to R230), from the ALU result before the output selector. -/
def newQ (qc : QCtl) (oldQ out : Word) : Word :=
  match qc with
  | .none => oldQ
  | .ql => (oldQ <<< 1) ||| (1 - (out >>> 31))
  | .qr => (oldQ >>> 1) ||| ((out &&& 1) <<< 31)
  | .qload => out

/-- What an ALU word leaves whose function gave `out` and `carry` (R180, R223, R231): `t` is the state after the
M-source read. -/
def aluDone (h : Head) (d : Dest) (ob : OutSel) (qc : QCtl) (t : State) (out : Word) (carry : Bool) : State :=
  match bus ob out carry t.q with
  | none => popjIf h.popj t
  | some v => popjIf h.popj (writeDest d v { t with q := newQ qc t.q out })

/-- The 32-bit sum of the adder (R182). -/
def sum (x y : Word) (c : Bool) : Word := BitVec.ofNat 32 (x.toNat + y.toNat + c.toNat)

/-- The carry of the adder: whether the exact sum crosses the 32-bit boundary (R182). -/
def carry (x y : Word) (c : Bool) : Bool := decide (2 ^ 32 ≤ x.toNat + y.toNat + c.toNat)

/-- What an ALU word leaves whose function is one use of the adder. -/
def aluSum (h : Head) (d : Dest) (ob : OutSel) (qc : QCtl) (t : State) (x y : Word) (c : Bool) : State :=
  aluDone h d ob qc t (sum x y c) (carry x y c)

/-- What an ALU word with any function leaves: the function's row gives result and carry, an undefined function gives
none (R185). -/
def aluRow (h : Head) (d : Dest) (b : AluBits) (fn : AluFn) (ob : OutSel) (qc : QCtl) (s : State) : State :=
  let m := (readM h.src s).1
  let t := (readM h.src s).2
  match aluFunction fn m (readAMem t b.asrc) b.cin (t.q.getLsbD 0) with
  | none => popjIf h.popj t
  | some r => aluDone h d ob qc t r.out r.carry

/-! ### Transfers -/

/-- The state with control moved to `target` (R256, R258). -/
def goto (target : MicroPc) (n : Bool) (s : State) : State :=
  { s with uPc := target, noExecNext := n || s.noExecNext }

/-- The address a P bit pushes (R141). -/
def returnTo (n : Bool) (s : State) : MicroPc := if n then s.uPc - 1 else s.uPc

/-- The state with an address pushed on the SPC stack; bits 18..14 of the entry are 0 (R25, R141). -/
def pushed (a : MicroPc) (s : State) : State :=
  { s with spcPtr := s.spcPtr + 1, spc := s.spc.set (s.spcPtr + 1).toNat (a.setWidth 19) }

/-- A taken transfer that is no self-write (R140): plain, call or return. -/
def transfer (target : MicroPc) (r p n : Bool) (s : State) : State :=
  if r then
    let u := if p then pushed (returnTo n s) s else s
    goto (popReturn u).1 n (popReturn u).2
  else goto target n (if p then pushed (returnTo n s) s else s)

/-- The word a self-write stores (R123, R257). -/
def selfWord (a m : Word) : Microword := ((a &&& 0xFFFF).setWidth 48 <<< 32) ||| m.setWidth 48

/-- The state with the self-write made (R257). -/
def selfWritten (j : JumpBits) (a m : Word) (s : State) : State :=
  { s with ucode := s.ucode.set j.jaddr.toNat (selfWord a m) }

/-- A JUMP that is taken (R254 to R258). With P and R both set the word is written, and the pop gives back the address
just pushed, so that the pointer ends where it was. -/
def jumpTaken (j : JumpBits) (r p : Bool) (a m : Word) (s : State) : State :=
  if p && r then
    goto (returnTo j.n s) j.n
      { selfWritten j a m s with spc := s.spc.set (s.spcPtr + 1).toNat ((returnTo j.n s).setWidth 19) }
  else transfer j.jaddr r p j.n s

/-- A JUMP that is not taken (R140, R142, R257): the self-write does not depend on the condition, POPJ is performed. -/
def jumpNotTaken (popj : Bool) (j : JumpBits) (r p : Bool) (a m : Word) (s : State) : State :=
  popjIf popj (if p && r then selfWritten j a m s else s)

/-- What a JUMP word leaves, given its condition before INV (R240, R252, R253). -/
def jumpDone (popj : Bool) (j : JumpBits) (misc : JMisc) (r p cond : Bool) (a m : Word) (t : State) : State :=
  let u := if cond != j.inv then jumpTaken j r p a m t else jumpNotTaken popj j r p a m t
  if misc = .halt then { u with run := false } else u

/-- What a JUMP word leaves whose condition is this function of M, A and the state. -/
def jumpRow (h : Head) (j : JumpBits) (misc : JMisc) (r p : Bool) (cond : Word → Word → State → Bool) (s : State) :
    State :=
  let m := (readM h.src s).1
  let t := (readM h.src s).2
  let a := readAMem t j.asrc
  jumpDone h.popj j misc r p (cond m a t) a m t

/-- `signed32` (00_scope.md section 4). -/
def signed32 (v : Word) : Int := if 2 ^ 31 ≤ v.toNat then (v.toNat : Int) - 2 ^ 32 else v.toNat

/-! ### Position modify, DISPATCH -/

/-- `PositionModify` (R296). -/
def position (field : BitVec 5) (lc : Word) : BitVec 5 :=
  let bit (b : Bool) (k : Nat) : BitVec 5 := if b then 1#5 <<< k else 0
  if lc.getLsbD 29 then
    (field &&& 7) ||| bit (field.getLsbD 3 ^^ lc.getLsbD 0) 3 ||| bit (field.getLsbD 4 ^^ lc.getLsbD 1 ^^ lc.getLsbD 0) 4
  else (field &&& 15) ||| bit (field.getLsbD 4 ^^ lc.getLsbD 1 ^^ true) 4

/-- The bit of the dispatch address that the map mode ORs in (R274). -/
def mapModeBit (dmap : BitVec 2) (l2 : BitVec 24) : Bool :=
  if dmap = 0 then false
  else if dmap = 1 then l2.getLsbD 18
  else if dmap = 2 then l2.getLsbD 19
  else l2.getLsbD 18 || l2.getLsbD 19

/-- The dispatch-memory address (R273, R274). -/
def dispatchIndex (b : DispBits) (pos : BitVec 5) (m : Word) (t : State) : BitVec 11 :=
  b.daddr ||| BitVec.ofNat 11 ((rotl32 m pos).toNat % 2 ^ b.dlen.toNat) |||
    (if mapModeBit b.dmap (translateVa t (probeAddress t)).l2 then 1#11 else 0#11)

/-- The state a dispatch transfers from (R276 to R278): constant loaded, N+1 and ISH done. -/
def dispatchReady (b : DispBits) (n : Bool) (t : State) : State :=
  let u : State := { (if b.dmap = 0 then t else noteWalk (probeAddress t) t) with
    dispatchConstant := b.dconst
    uPc := if b.nplus1 && n then t.uPc - 1 else t.uPc }
  if b.ish then (advanceLc 0 u).2 else u

/-- What a dispatching DISPATCH word leaves (R270 to R280). -/
def dispatchDone (popj : Bool) (b : DispBits) (pos : BitVec 5) (m : Word) (t : State) : State :=
  let e := t.dmem.get (dispatchIndex b pos m t).toNat
  let n := e.getLsbD 14
  let u := dispatchReady b n t
  if e.getLsbD 15 && e.getLsbD 16 then popjIf popj { u with noExecNext := n || u.noExecNext }
  else transfer (e.extractLsb' 0 14) (e.getLsbD 16) (e.getLsbD 15) n u

/-! ### BYTE -/

/-- The bits of `v`: from `x` inside the field `lo .. hi`, from `a` outside it. -/
def fieldFrom (lo hi : Nat) (x : Nat → Bool) (a v : Word) : Prop :=
  ∀ i, i < 32 → v.getLsbD i = if lo ≤ i ∧ i ≤ hi then x i else a.getLsbD i

/-- The rotate count of a BYTE word (R290). -/
def bytePos (b : ByteBits) (t : State) : BitVec 5 := if b.misc = 3 then position b.brot t.lc else b.brot

/-! ### Sources and destinations -/

/-- An instruction that reads its M-source gets `m` and goes on from `t`; a dispatch-memory write, which reads none,
goes on from `s` (R281). -/
def withSource (pj : Bool) (body : Body) (m : Word) (t s : State) : State :=
  afterRead pj body m (if isDispatchWrite body then s else t)

/-- What an ALU or BYTE word leaves whose destination does `f` with the output bus; no bus value, no effect (R180,
R185, R223, R290, R292). -/
def destDone (h : Head) (op : BusOp) (f : Word → State → State) (s : State) : State :=
  let m := (readM h.src s).1
  let t := (readM h.src s).2
  match busValue op m t with
  | none => popjIf h.popj t
  | some (out, q) => popjIf h.popj (f out { t with q := q })

/-- The M-memory capture: `M[i]` and `A[i]` (R11, R302). -/
def captured (i : BitVec 5) (v : Word) (s : State) : State :=
  { s with mMem := s.mMem.set i.toNat v, aMem := s.aMem.set i.toNat v }

/-- The LC after a write of the LC destination (R305). -/
def lcWritten (lc out : Word) : Word :=
  (lc &&& 0x7C000000) ||| (out &&& (if lc.getLsbD 29 then 0x03FFFFFF#32 else 0x03FFFFFE#32)) ||| 0x80000000

/-- The LC after a write of the interrupt-control destination (R306). -/
def lcFlagged (lc out : Word) : Word := (lc &&& 0xC3FFFFFF) ||| (out &&& 0x3C000000)

/-! ### The Location Counter -/

/-- The LC after the addition of an advance (R330): the count grows by 1 or 2 modulo 2^26, the flags stay. -/
def lcAdded (lc : Word) : Word :=
  (lc &&& 0xFC000000) ||| BitVec.ofNat 32 ((lc.toNat + (if lc.getLsbD 29 then 1 else 2)) % 2 ^ 26)

/-- NEED-FETCH after an advance, on the LC after the addition (R331). -/
def needFetchNext (lc : Word) : Bool :=
  if lc.getLsbD 29 then lc.toNat % 4 == 0 else lc.toNat / 2 % 2 == 0

/-! ### Memory -/

/-- The address is in none of the three hardwired windows (R66). -/
def tableWalked (va : BitVec 24) : Bool := windowBase va == none

/-- The page is ordinary memory: no device page and not the unibus page (R75). -/
def ordinaryPage (p : Ppn) : Bool := !isDevicePage p && p != unibusPage

/-- The page holds memory, or is RAM that a first access allocates (R71 to R73). -/
def backedPage (s : State) (p : Ppn) : Bool := ordinaryPage p && (pageExists s p || isRamPage s p)

/-- The pages after an access of the page (R71). -/
def pagesAfter (s : State) (p : Ppn) : List Nat :=
  if pageExists s p then s.pages else insertPage s.pages p.toNat

/-- The translation cache aside, which is inert (R37), two states are the same. -/
def sameButCache (s t : State) : Prop := t = { s with cache := t.cache }

/-! ### Which words start a memory cycle -/

/-- The destination starts a memory cycle (R316, R317, R320, R321). -/
def startsCycle (d : Dest) : Bool :=
  match d with
  | .fn f _ => f == .vmaStartRead || f == .vmaStartWrite || f == .mdStartRead || f == .mdStartWrite
  | _ => false

/-- A return that pops here advances the LC and so starts a read: bit 14 of the entry (R142) and NEED-FETCH (R330). -/
def returnReads (t : State) : Bool := (t.spc.get t.spcPtr.toNat).getLsbD 14 && t.lc.getLsbD 31

/-- A word whose M-operand is `m` starts a memory cycle from the state `t` after its M-source read (R62): by its
destination, by the advance of ISH (R278), or by a return. -/
def memoryCycle (popj : Bool) (body : Body) (m : Word) (t : State) : Bool :=
  match body with
  | .bus op d => (startsCycle d && (busValue op m t).isSome) || (popj && returnReads (busWrites op d m t))
  | .jump op =>
    let taken := testCondition op.test m (readAMem t op.bits.asrc) t != op.bits.inv
    (if taken then op.r && !op.p else popj) && returnReads t
  | .disp op =>
    if op.kind = .write then popj && returnReads t
    else
      let pos := if op.kind = .posmod then position op.bits.drot t.lc else op.bits.drot
      let e := t.dmem.get (dispatchIndex op.bits pos m t).toNat
      let pops := if e.getLsbD 15 && e.getLsbD 16 then popj else e.getLsbD 16
      (op.bits.ish && t.lc.getLsbD 31) || (pops && returnReads (dispatchReady op.bits (e.getLsbD 14) t))

/-! ### Cycles -/

/-- The state in which the word `p0` is executed, in a cycle that moved the pipeline without a stall and without an
instruction modify (R130 to R138). -/
def straight (s : State) : State :=
  let u := poll s
  { u with
    cycles := if s.cycles = 0xFFFFFFFF then 1 else s.cycles + 1
    md := if s.newMdDelay = 1 then s.newMd else s.md
    newMdDelay := if s.newMdDelay = 2 then 1 else 0
    p0 := s.p1
    p0Pc := s.p1Pc
    p1 := fetch u s.uPc
    p1Pc := s.uPc
    uPc := s.uPc + 1
    pcHistory := (s.p1Pc :: s.pcHistory).take s.pcHistoryDepth
    macroHistory := (Config.macroRecord u.freeCount :: s.macroHistory).take s.pcHistoryDepth
    freeCount := u.freeCount + 1 }

/-- The same in a cycle with a stall (R136): the prefetched word is gone. -/
def stalled (s : State) : State :=
  let u := poll s
  { straight s with
    noExecNext := false
    p0 := fetch u s.uPc
    p0Pc := s.uPc
    p1 := fetch u (s.uPc + 1)
    p1Pc := s.uPc + 1
    uPc := s.uPc + 2
    pcHistory := (s.uPc :: s.pcHistory).take s.pcHistoryDepth }

end Sys2Proof.Ruled

open Sys2Proof Sys2Proof.Machine Sys2Proof.Ruled

/-- Every well-formed instruction is read back from its word, with every operand (formats of R101 to R106; which row a
word is named by is the model's choice, log 1). -/
def Obligations.DecodeOfEncode : Prop :=
  ∀ i : Instr, i.wf = true → decode (encode i) = i

/-- Every word has exactly one instruction and no bit of it is dropped, the ignored ones included (R119, R120: no
encoding traps; log 1 for the row). -/
def Obligations.EncodeOfDecode : Prop :=
  ∀ w : Microword, (decode w).wf = true ∧ encode (decode w) = w

/-- Worked words of the spec (30_encoding.md section 8, R257, R280, R281, R293, R243) decode to the instruction they
are written for. The fields follow the spec's own layout decisions (D1 to D6, log 11). -/
def Obligations.DecodeOfSpecWords : Prop :=
  decode 0x000500881028 =
      .aluSeta ⟨⟨false, false, false⟩, false, .m 0⟩ (.fn .vmaStartRead 0) ⟨5, 0, false, false⟩ .alu .none ∧
    decode 0x08071C29C123 =
      .jumpEq ⟨⟨false, false, false⟩, false, .m 7⟩ ⟨7, 0o1234, false, false⟩ .none false true 0 ∧
    decode 0o200000000002040 =
      .jumpHalt ⟨⟨false, false, false⟩, false, .m 0⟩ ⟨0, 0, false, false⟩ false false (.table .never 0) ∧
    decode 0o405142401000140 =
      .dispatch ⟨⟨false, false, false⟩, false, .m 5⟩ ⟨0o123, false, false, false, 0o100, 0, 3, 0⟩ ∧
    decode 0o400740001064000 =
      .dispatchWrite ⟨⟨false, false, false⟩, false, .m 0⟩ ⟨0o17, false, false, false, 0o106, 0, 0, 0⟩ ∧
    decode 0o604000400110370 =
      .byteLdb ⟨⟨false, false, false⟩, false, .m 1⟩ (.fn .none 2) ⟨0o100, 0, 7, 24⟩ ∧
    decode 0 = .nop false false

/-- Exactly four words are NOPs, and a NOP does nothing beyond what its cycle did before (R118, R139; the mask is the
spec's decision D22). -/
def Obligations.NopWordsAndTheirMeaning : Prop :=
  (∀ w : Microword,
    (∃ b47 b12, decode w = .nop b47 b12) ↔
      w = 0 ∨ w = 0x000000001000 ∨ w = 0x800000000000 ∨ w = 0x800000001000) ∧
    ∀ (b47 b12 : Bool) (s : State), exec (.nop b47 b12) s = .next s

/-- The rows of the opcode table overlap (an ALU word has a function row, a destination row and so on); whichever row
a word is named by, its meaning is the same (log 1). The NOP is excepted: its words are tested before class decode
(R118). -/
def Obligations.RowsOfOneWordAgree : Prop :=
  ∀ (i j : Instr) (s : State), encode i = encode j →
    (∀ b b', i ≠ .nop b b') → (∀ b b', j ≠ .nop b b') → exec i s = exec j s

/-- A step executes the prefetched word: what else a cycle does is in `Ruled.straight` (R130 to R138; the place of the
MD load in the cycle and the wrap of the count are the spec's decisions D25 and D41, the order of the two polls of a
coarse cycle is the model's choice, log 21, and so is the record in the macro history, a free value, log 17). -/
def Obligations.StepRunsTheDecodedInstruction : Prop :=
  ∀ (i : Instr) (s : State), i.wf = true → s.run = true → s.noExecNext = false → s.oaLoSet = false →
    s.oaHiSet = false → s.p1 = encode i → step s = exec i (straight s)

/-- The stall (R136): the word that moved into p0 is discarded and has no effect at all, p1 moves in again and one
more word is fetched. `Ruled.stalled` is the whole cycle around it (R130 to R138): the place of the MD load and the
wrap of the count are the spec's decisions D25 and D41, the order of the two polls of a coarse cycle is the model's
choice, log 21, and so is the record in the macro history, a free value, log 17. -/
def Obligations.StallDiscardsOneWord : Prop :=
  ∀ s : State, s.run = true → s.noExecNext = true → s.oaLoSet = false → s.oaHiSet = false →
    step s = exec (decode (fetch (poll s) s.uPc)) (stalled s) ∧
    ∀ (w : Microword) (a : MicroPc), step { s with p1 := w, p1Pc := a } = step s

/-- Next-instruction modify (R137, D21): it applies to the word executed after a stall, too. The rest of the cycle is
as in StepRunsTheDecodedInstruction and StallDiscardsOneWord (D25, D41, log 17, log 21). -/
def Obligations.ModifyMergesIntoTheNextWord : Prop :=
  ∀ s : State, s.run = true →
    let w := (if s.noExecNext then fetch (poll s) s.uPc else s.p1) |||
      (if s.oaLoSet then s.oaLo.setWidth 48 else 0) ||| (if s.oaHiSet then s.oaHi.setWidth 48 <<< 26 else 0)
    step s = exec (decode w)
      { (if s.noExecNext then stalled s else straight s) with p0 := w, oaLoSet := false, oaHiSet := false }

/-- No trap and no illegal instruction: whatever the word and the state, the machine goes on (R120, R350, R358). A
halted core keeps all state (R146); that its step is a step to the same state is the model's choice (log 25). -/
def Obligations.EveryStepGoesOn : Prop :=
  (∀ s : State, ∃ t, step s = .next t) ∧ (∀ (i : Instr) (s : State), ∃ t, exec i s = .next t) ∧
    ∀ s : State, s.run = false → step s = .next s

/-- The delayed load (R133; its place in the cycle is the spec's decision D25). The state named t is the one the
instruction executes in, stall or not. -/
def Obligations.ReadDataReachesMdInTwoCycles : Prop :=
  ∀ s : State, s.run = true → ∃ t : State, step s = exec (decode t.p0) t ∧ t.newMd = s.newMd ∧
    (s.newMdDelay = 2 → t.md = s.md ∧ t.newMdDelay = 1) ∧
    (s.newMdDelay = 1 → t.md = s.newMd ∧ t.newMdDelay = 0) ∧
    (s.newMdDelay = 0 → t.md = s.md ∧ t.newMdDelay = 0)

/-- The PROM is read-only to the engine, nothing sets its enable again (R29, R30), and the parameters of a run stay
(R46). -/
def Obligations.PromIsKept : Prop :=
  ∀ s t : State, step s = .next t →
    t.prom = s.prom ∧ (t.promEnabled = true → s.promEnabled = true) ∧ t.ramLast = s.ramLast ∧
    t.pcHistoryDepth = s.pcHistoryDepth

/-- The invariant `State.Inv` (Safety.lean) holds after every step from every state that meets it, reachable or not.
-/
def Obligations.EveryStepKeepsTheInvariant : Prop :=
  ∀ s t : State, s.Inv → step s = .next t → t.Inv

/-- The invariant holds at reset (R50, the spec's decision D34), with any boot data (R393, log 12). -/
def Obligations.ResetMeetsTheInvariant : Prop :=
  State.Inv State.reset ∧ ∀ words : List Microword, State.Inv (loadProm words State.reset)

/-- The rows of R50 that it marks `decided` (D34). The other rows are the model's choice (log 13, log 14) and not
stated here. -/
def Obligations.ResetValues : Prop :=
  ∀ s : State, s = State.reset →
    s.uPc = 0 ∧ s.promEnabled = true ∧ s.p0 = 0 ∧ s.p1 = 0 ∧ s.p0Pc = 0 ∧ s.p1Pc = 0 ∧ s.noExecNext = false ∧
    s.oaLoSet = false ∧ s.oaHiSet = false ∧ s.run = true ∧ s.cycles = 0 ∧ s.newMdDelay = 0 ∧ s.pageFault = false ∧
    s.accessFault = false ∧ s.writeFault = false ∧ s.isr = 0 ∧ s.interruptPending = false ∧ s.lc = 0 ∧
    s.cache.valid = false ∧ s.pages = [] ∧ s.mem = [] ∧ s.pcHistory = [] ∧ s.macroHistory = []

/-- How a program comes to run from reset (R392): the PROM is filled by the host (R393, log 12), cycle 1 is the NOP,
cycle 2 executes word 0. `Ruled.straight` holds the rest of a cycle (D25, D41, log 17, log 21), and the values at
reset that R50 does not decide are the model's (log 13, log 14). -/
def Obligations.FirstCyclesAfterReset : Prop :=
  ∀ words : List Microword,
    let s := loadProm words State.reset
    let c1 := straight s
    let c2 := straight c1
    step s = exec (.nop false false) c1 ∧ exec (.nop false false) c1 = .next c1 ∧ c1.uPc = 1 ∧
    c1.p1 = s.prom.get 0 ∧ c1.p1Pc = 0 ∧
    step c1 = exec (decode (s.prom.get 0)) c2 ∧ c2.p0 = s.prom.get 0 ∧ c2.p1 = s.prom.get 1 ∧ c2.uPc = 2 ∧
    c2.p0Pc = 0 ∧ c2.p1Pc = 1

/-- R186 to R201 (codes: the spec's decision D7; selector and Q control codes: D10, D11), whole instructions: SETZ,
AND, ANDCA, SETM, ANDCM, SETA, XOR, IOR, ANDCB, EQV, SETCA, ORCA, SETCM, ORCM, ORCB, SETO. OB = 0 writes nothing: the
hardware default of R223 is taken (D36, log 3). -/
def Obligations.BooleanFunctions : Prop :=
  ∀ (h : Head) (d : Dest) (b : AluBits) (ob : OutSel) (qc : QCtl) (s : State),
    let m := (readM h.src s).1
    let t := (readM h.src s).2
    let a := readAMem t b.asrc
    exec (.aluSetz h d b ob qc) s = .next (aluDone h d ob qc t (0) false) ∧
    exec (.aluAnd h d b ob qc) s = .next (aluDone h d ob qc t (m &&& a) false) ∧
    exec (.aluAndca h d b ob qc) s = .next (aluDone h d ob qc t (m &&& ~~~a) false) ∧
    exec (.aluSetm h d b ob qc) s = .next (aluDone h d ob qc t (m) false) ∧
    exec (.aluAndcm h d b ob qc) s = .next (aluDone h d ob qc t (~~~m &&& a) false) ∧
    exec (.aluSeta h d b ob qc) s = .next (aluDone h d ob qc t (a) false) ∧
    exec (.aluXor h d b ob qc) s = .next (aluDone h d ob qc t (m ^^^ a) false) ∧
    exec (.aluIor h d b ob qc) s = .next (aluDone h d ob qc t (m ||| a) false) ∧
    exec (.aluAndcb h d b ob qc) s = .next (aluDone h d ob qc t (~~~(m ||| a)) false) ∧
    exec (.aluEqv h d b ob qc) s = .next (aluDone h d ob qc t (~~~m ^^^ a) false) ∧
    exec (.aluSetca h d b ob qc) s = .next (aluDone h d ob qc t (~~~a) false) ∧
    exec (.aluOrca h d b ob qc) s = .next (aluDone h d ob qc t (m ||| ~~~a) false) ∧
    exec (.aluSetcm h d b ob qc) s = .next (aluDone h d ob qc t (~~~m) false) ∧
    exec (.aluOrcm h d b ob qc) s = .next (aluDone h d ob qc t (~~~m ||| a) false) ∧
    exec (.aluOrcb h d b ob qc) s = .next (aluDone h d ob qc t (~~~(m &&& a)) false) ∧
    exec (.aluSeto h d b ob qc) s = .next (aluDone h d ob qc t (BitVec.allOnes 32) false)

/-- R202 to R217 with the adder of R182 as natural numbers (codes: D7, D8; selector and Q control codes: D10, D11). OB
= 0 writes nothing: the hardware default of R223 is taken (D36, log 3). -/
def Obligations.ArithmeticFunctions : Prop :=
  ∀ (h : Head) (d : Dest) (b : AluBits) (ob : OutSel) (qc : QCtl) (s : State),
    let m := (readM h.src s).1
    let t := (readM h.src s).2
    let a := readAMem t b.asrc
    exec (.aluA20 h d b ob qc) s = .next (aluSum h d ob qc t 0xFFFFFFFF 0 b.cin) ∧
    exec (.aluA21 h d b ob qc) s = .next (aluSum h d ob qc t (m &&& a) 0xFFFFFFFF b.cin) ∧
    exec (.aluA22 h d b ob qc) s = .next (aluSum h d ob qc t (m &&& ~~~a) 0xFFFFFFFF b.cin) ∧
    exec (.aluA23 h d b ob qc) s = .next (aluSum h d ob qc t m 0xFFFFFFFF b.cin) ∧
    exec (.aluA24 h d b ob qc) s = .next (aluSum h d ob qc t (m ||| ~~~a) 0 b.cin) ∧
    exec (.aluA25 h d b ob qc) s = .next (aluSum h d ob qc t (m ||| ~~~a) (m &&& a) b.cin) ∧
    exec (.aluSub h d b ob qc) s = .next (aluSum h d ob qc t m (~~~a) b.cin) ∧
    exec (.aluA27 h d b ob qc) s = .next (aluSum h d ob qc t (m ||| ~~~a) m b.cin) ∧
    exec (.aluA30 h d b ob qc) s = .next (aluSum h d ob qc t (m ||| a) 0 b.cin) ∧
    exec (.aluAdd h d b ob qc) s = .next (aluSum h d ob qc t m a b.cin) ∧
    exec (.aluA32 h d b ob qc) s = .next (aluSum h d ob qc t (m ||| a) (m &&& ~~~a) b.cin) ∧
    exec (.aluA33 h d b ob qc) s = .next (aluSum h d ob qc t (m ||| a) m b.cin) ∧
    exec (.aluIncm h d b ob qc) s = .next (aluSum h d ob qc t m 0 b.cin) ∧
    exec (.aluA35 h d b ob qc) s = .next (aluSum h d ob qc t m (m &&& a) b.cin) ∧
    exec (.aluA36 h d b ob qc) s = .next (aluSum h d ob qc t m (m ||| ~~~a) b.cin) ∧
    exec (.aluLshm h d b ob qc) s = .next (aluSum h d ob qc t m m b.cin)

/-- The usual forms of R184 (D7, D8). OB = 0 writes nothing: the hardware default of R223 is taken (D36, log 3). -/
def Obligations.NamedArithmeticForms : Prop :=
  ∀ (h : Head) (d : Dest) (b : AluBits) (ob : OutSel) (qc : QCtl) (s : State),
    let m := (readM h.src s).1
    let t := (readM h.src s).2
    let a := readAMem t b.asrc
    (b.cin = true →
      exec (.aluSub h d b ob qc) s = .next (aluDone h d ob qc t (m - a) (decide (a ≤ m))) ∧
      exec (.aluIncm h d b ob qc) s = .next (aluDone h d ob qc t (m + 1) (decide (m = 0xFFFFFFFF)))) ∧
    (b.cin = false →
      exec (.aluAdd h d b ob qc) s = .next (aluDone h d ob qc t (m + a) (decide (m + a < m))) ∧
      exec (.aluA23 h d b ob qc) s = .next (aluDone h d ob qc t (m - 1) (decide (m ≠ 0))) ∧
      exec (.aluLshm h d b ob qc) s = .next (aluDone h d ob qc t (m <<< 1) (m.getLsbD 31)))

/-- R218 to R221 as the spec decides them (D9; its default for DIVRC with Q[0] = 1 is taken, log 10). OB = 0 writes
nothing: the hardware default of R223 is taken (D36, log 3). -/
def Obligations.StepFunctions : Prop :=
  ∀ (h : Head) (d : Dest) (b : AluBits) (ob : OutSel) (qc : QCtl) (s : State),
    let m := (readM h.src s).1
    let t := (readM h.src s).2
    let a := readAMem t b.asrc
    let q0 := t.q.getLsbD 0
    exec (.aluMul h d b ob qc) s = .next
      (if q0 then aluSum h d ob qc t m a b.cin else aluDone h d ob qc t m (m.getLsbD 31)) ∧
    exec (.aluDiv h d b ob qc) s = .next
      (if q0 then aluSum h d ob qc t m (~~~a) (!b.cin) else aluSum h d ob qc t m a b.cin) ∧
    exec (.aluDivrc h d b ob qc) s = .next
      (if q0 then aluDone h d ob qc t m false else aluSum h d ob qc t m a b.cin) ∧
    exec (.aluDivfs h d b ob qc) s = .next (aluSum h d ob qc t m (~~~a) (!b.cin))

/-- The hardware default of R185 (D36, log 2). -/
def Obligations.UndefinedFunctions : Prop :=
  ∀ (h : Head) (d : Dest) (b : AluBits) (ob : OutSel) (qc : QCtl) (s : State),
    let t := popjIf h.popj (readM h.src s).2
    exec (.aluUndef42 h d b ob qc) s = .next t ∧
    exec (.aluUndef43 h d b ob qc) s = .next t ∧
    exec (.aluUndef44 h d b ob qc) s = .next t ∧
    exec (.aluUndef46 h d b ob qc) s = .next t ∧
    exec (.aluUndef47 h d b ob qc) s = .next t ∧
    exec (.aluUndef50 h d b ob qc) s = .next t ∧
    exec (.aluUndef52 h d b ob qc) s = .next t ∧
    exec (.aluUndef53 h d b ob qc) s = .next t ∧
    exec (.aluUndef54 h d b ob qc) s = .next t ∧
    exec (.aluUndef55 h d b ob qc) s = .next t ∧
    exec (.aluUndef56 h d b ob qc) s = .next t ∧
    exec (.aluUndef57 h d b ob qc) s = .next t ∧
    exec (.aluUndef60 h d b ob qc) s = .next t ∧
    exec (.aluUndef61 h d b ob qc) s = .next t ∧
    exec (.aluUndef62 h d b ob qc) s = .next t ∧
    exec (.aluUndef63 h d b ob qc) s = .next t ∧
    exec (.aluUndef64 h d b ob qc) s = .next t ∧
    exec (.aluUndef65 h d b ob qc) s = .next t ∧
    exec (.aluUndef66 h d b ob qc) s = .next t ∧
    exec (.aluUndef67 h d b ob qc) s = .next t ∧
    exec (.aluUndef70 h d b ob qc) s = .next t ∧
    exec (.aluUndef71 h d b ob qc) s = .next t ∧
    exec (.aluUndef72 h d b ob qc) s = .next t ∧
    exec (.aluUndef73 h d b ob qc) s = .next t ∧
    exec (.aluUndef74 h d b ob qc) s = .next t ∧
    exec (.aluUndef75 h d b ob qc) s = .next t ∧
    exec (.aluUndef76 h d b ob qc) s = .next t ∧
    exec (.aluUndef77 h d b ob qc) s = .next t

/-- R223 to R226 (codes: D10; OB = 0: hardware default, D36, log 3) and R227 to R230 (codes: D11), as `aluRow` spells
them. -/
def Obligations.OutputSelectorsAndQControls : Prop :=
  ∀ (h : Head) (d : Dest) (b : AluBits) (fn : AluFn) (qc : QCtl) (s : State),
    exec (.obUndef h d b fn qc) s = .next (popjIf h.popj (readM h.src s).2) ∧
    exec (.obAlu h d b fn qc) s = .next (aluRow h d b fn .alu qc s) ∧
    exec (.obR1 h d b fn qc) s = .next (aluRow h d b fn .r1 qc s) ∧
    exec (.obL1 h d b fn qc) s = .next (aluRow h d b fn .l1 qc s) ∧
    ∀ ob : OutSel,
      exec (.qcNone h d b fn ob) s = .next (aluRow h d b fn ob .none s) ∧
      exec (.qcQl h d b fn ob) s = .next (aluRow h d b fn ob .ql s) ∧
      exec (.qcQr h d b fn ob) s = .next (aluRow h d b fn ob .qr s) ∧
      exec (.qcQload h d b fn ob) s = .next (aluRow h d b fn ob .qload s)

/-- R243 to R251 with R252 to R258 (condition numbers and the signed comparison: D14; P, R, N details: D15). It holds
for every MISC, R and P: that MISC 2 and 3 are ignored is the hardware default of R259 (D36, log 7), and what a taken
self-write does is read from R257 and R140 (log 9). -/
def Obligations.JumpConditions : Prop :=
  ∀ (h : Head) (j : JumpBits) (misc : JMisc) (r p : Bool) (b43 : BitVec 2) (s : State),
    exec (.jumpNever h j misc r p b43) s = .next (jumpRow h j misc r p (fun _ _ _ => false) s) ∧
    exec (.jumpLt h j misc r p b43) s = .next
      (jumpRow h j misc r p (fun m a _ => decide (signed32 m < signed32 a)) s) ∧
    exec (.jumpLe h j misc r p b43) s = .next
      (jumpRow h j misc r p (fun m a _ => decide (signed32 m ≤ signed32 a)) s) ∧
    exec (.jumpEq h j misc r p b43) s = .next (jumpRow h j misc r p (fun m a _ => decide (m = a)) s) ∧
    exec (.jumpPf h j misc r p b43) s = .next (jumpRow h j misc r p (fun _ _ t => t.pageFault) s) ∧
    exec (.jumpPfi h j misc r p b43) s = .next
      (jumpRow h j misc r p (fun _ _ t => t.pageFault || (t.lc.getLsbD 27 && t.interruptPending)) s) ∧
    exec (.jumpPfis h j misc r p b43) s = .next
      (jumpRow h j misc r p (fun _ _ t => t.pageFault || (t.lc.getLsbD 27 && t.interruptPending) || t.lc.getLsbD 26) s) ∧
    exec (.jumpAlways h j misc r p b43) s = .next (jumpRow h j misc r p (fun _ _ _ => true) s) ∧
    ∀ rot : BitVec 5, exec (.jumpBit h j misc r p rot) s = .next
      (jumpRow h j misc r p (fun m _ _ => m.getLsbD ((32 - rot.toNat) % 32)) s)

/-- R252 (D37), R257, R259 (hardware default, D36, log 7; the taken self-write: log 9). -/
def Obligations.JumpForms : Prop :=
  ∀ (h : Head) (j : JumpBits) (misc : JMisc) (r p : Bool) (c : JTest) (s : State),
    exec (.jumpHalt h j r p c) s = .next { jumpRow h j .none r p (testCondition c) s with run := false } ∧
    exec (.jumpWriteUcode h j misc c) s = .next (jumpRow h j misc true true (testCondition c) s) ∧
    exec (.jumpMisc2 h j r p c) s = .next (jumpRow h j .none r p (testCondition c) s) ∧
    exec (.jumpMisc3 h j r p c) s = .next (jumpRow h j .none r p (testCondition c) s)

/-- R257 (unconditional write at the literal address), with the layout of R123. -/
def Obligations.SelfWriteStoresTheWord : Prop :=
  ∀ (g : Ignored) (ms : BitVec 5) (j : JumpBits) (b43 : BitVec 2) (s : State), j.inv = false →
    ∃ t, exec (.jumpNever ⟨g, false, .m ms⟩ j .none true true b43) s = .next t ∧
      t = { s with ucode := t.ucode } ∧
      t.ucode.get j.jaddr.toNat = (readAMem s j.asrc).extractLsb' 0 16 ++ readMMem s ms ∧
      ∀ k, k ≠ j.jaddr.toNat → t.ucode.get k = s.ucode.get k

/-- R142 (D16) with the pop of R26 (D15) and the advance of R330 (D28). The stall flag is not touched. -/
def Obligations.ReturnsPopTheStack : Prop :=
  ∀ s : State,
    let e := s.spc.get s.spcPtr.toNat
    (e.getLsbD 14 = false → doPopj s = { s with uPc := e.extractLsb' 0 14, spcPtr := s.spcPtr - 1 }) ∧
    (e.getLsbD 14 = true →
      doPopj s =
        { (advanceLc e { s with spcPtr := s.spcPtr - 1 }).2 with
          uPc := (advanceLc e { s with spcPtr := s.spcPtr - 1 }).1.extractLsb' 0 14 })

/-- R330 and R331 (the spec's decision D28) by integers and masks. -/
def Obligations.LcAdvance : Prop :=
  ∀ (v : BitVec 19) (s : State),
    let lc := lcAdded s.lc
    (s.lc.getLsbD 31 = false →
      advanceLc v s = (v ||| 2, { s with lc := if needFetchNext lc then lc ||| 0x80000000 else lc })) ∧
    (s.lc.getLsbD 31 = true →
      let u := startRead { s with
        lc := lc &&& 0x7FFFFFFF, vma := BitVec.ofNat 32 (s.lc.toNat % 2 ^ 26 / 4) }
      advanceLc v s = (v, { u with lc := if needFetchNext lc then u.lc ||| 0x80000000 else u.lc }) ∧
      u.lc = lc &&& 0x7FFFFFFF)

/-- R26's property (`pushing 33 values then popping 32 times`), for any number of pushes (entry width and pointer
rule: D15). -/
def Obligations.SpcIsARing : Prop :=
  ∀ (vs : List (BitVec 19)) (s : State) (k : Nat) (h : k < vs.length), k < 32 →
    spcTop (Nat.repeat spcDrop k (vs.foldl (fun t v => spcPush v t) s)) = vs[vs.length - 1 - k]'(by omega)

/-- R270 to R280 (D4, D17; position modify: D20; MISC = 1 ignored: D36, log 7; P and R in an entry: log 8). The inert
cache is written by the probe (R69). -/
def Obligations.DispatchRows : Prop :=
  ∀ (h : Head) (b : DispBits) (s : State),
    let m := (readM h.src s).1
    let t := (readM h.src s).2
    exec (.dispatch h b) s = .next (dispatchDone h.popj b b.drot m t) ∧
    exec (.dispatchMisc1 h b) s = .next (dispatchDone h.popj b b.drot m t) ∧
    exec (.dispatchPosmod h b) s = .next (dispatchDone h.popj b (position b.drot t.lc) m t)

/-- R281 (D18). -/
def Obligations.DispatchWriteRow : Prop :=
  ∀ (h : Head) (b : DispBits) (s : State), ∃ t : State,
    exec (.dispatchWrite h b) s = .next (if h.popj then doPopj t else t) ∧ t = { s with dmem := t.dmem } ∧
    t.dmem.get b.daddr.toNat = BitVec.ofNat 17 (readAMem s b.dconst).toNat ∧
    ∀ k, k ≠ b.daddr.toNat → t.dmem.get k = s.dmem.get k

/-- R290 to R297 (codes and masks: D19; position modify: D20; BOP = 0: D36, log 4). Q is unchanged: it is part of `t`.
-/
def Obligations.ByteRows : Prop :=
  ∀ (h : Head) (d : Dest) (b : ByteBits) (s : State),
    let m := (readM h.src s).1
    let t := (readM h.src s).2
    let a := readAMem t b.asrc
    let pos := (bytePos b t).toNat
    exec (.byteUndef h d b) s = .next (popjIf h.popj t) ∧
    (∃ v, fieldFrom 0 ((0 + b.widm1.toNat) % 32) (fun i => m.getLsbD ((i + 32 - pos) % 32)) a v ∧
      exec (.byteLdb h d b) s = .next (popjIf h.popj (writeDest d v t))) ∧
    (∃ v, fieldFrom pos ((pos + b.widm1.toNat) % 32) (fun i => m.getLsbD i) a v ∧
      exec (.byteSel h d b) s = .next (popjIf h.popj (writeDest d v t))) ∧
    (∃ v, fieldFrom pos ((pos + b.widm1.toNat) % 32) (fun i => m.getLsbD ((i + 32 - pos) % 32)) a v ∧
      exec (.byteDpb h d b) s = .next (popjIf h.popj (writeDest d v t)))

/-- R298, the rotation property of all three classes that rotate. -/
def Obligations.RotationProperty : Prop :=
  ∀ v : Word, rotl32 v 0 = v ∧
    ∀ n : Nat, 0 < n → n < 32 → rotl32 (rotl32 v (BitVec.ofNat 5 n)) (BitVec.ofNat 5 (32 - n)) = v

/-- R142 and R144 (D16, D25). The forms the spec leaves to a default or an inference are among them: the ignored MISC
values of a JUMP (R259) and of a DISPATCH with MISC = 1 (R270) (D36, log 7), the dispatch entry with P and R, after
which POPJ is performed (log 8), and the self-write that is taken (log 9). -/
def Obligations.PopjRow : Prop :=
  ∀ (g : Ignored) (src : MSrc) (s : State),
    let m := (readM src s).1
    let t := (readM src s).2
    (∀ op d, exec (.popj g src (.bus op d)) s = .next (doPopj (busWrites op d m t))) ∧
    (∀ op : JumpOp, exec (.popj g src (.jump op)) s = .next
      (let a := readAMem t op.bits.asrc
       let u := if testCondition op.test m a t != op.bits.inv then jumpTaken op.bits op.r op.p a m t
         else doPopj (if op.p && op.r then selfWritten op.bits a m t else t)
       if op.misc = .halt then { u with run := false } else u)) ∧
    (∀ b, exec (.popj g src (.disp ⟨.write, b⟩)) s = .next
      (doPopj { s with dmem := s.dmem.set b.daddr.toNat ((readAMem s b.dconst).extractLsb' 0 17) })) ∧
    (∀ b, exec (.popj g src (.disp ⟨.normal, b⟩)) s = .next (dispatchDone true b b.drot m t) ∧
      exec (.popj g src (.disp ⟨.misc1, b⟩)) s = .next (dispatchDone true b b.drot m t) ∧
      exec (.popj g src (.disp ⟨.posmod, b⟩)) s = .next (dispatchDone true b (position b.drot t.lc) m t))

/-- R152 to R161, R163, R164, R167 (code numbers: D12). `afterRead` (Safety.lean) is the rest of the instruction,
which the class rows state. -/
def Obligations.PlainSources : Prop :=
  ∀ (g : Ignored) (pj : Bool) (body : Body) (s : State),
    let top := s.spc.get s.spcPtr.toNat
    (∀ a, exec (.msrcM a g pj body) s = .next (withSource pj body (s.mMem.get a.toNat) s s)) ∧
    exec (.msrcDispatchConstant g pj body) s = .next (withSource pj body (BitVec.ofNat 32 s.dispatchConstant.toNat) s s) ∧
    exec (.msrcSpcPtrAndData g pj body) s = .next (withSource pj body ((s.spcPtr.setWidth 32 <<< 24) ||| top.setWidth 32) s s) ∧
    exec (.msrcPdlPointer g pj body) s = .next (withSource pj body (BitVec.ofNat 32 s.pdlPtr.toNat) s s) ∧
    exec (.msrcPdlIndex g pj body) s = .next (withSource pj body (BitVec.ofNat 32 s.pdlIndex.toNat) s s) ∧
    exec (.msrcPdlBufferIndex g pj body) s = .next (withSource pj body (s.pdl.get s.pdlIndex.toNat) s s) ∧
    exec (.msrcOpc g pj body) s = .next (withSource pj body (BitVec.ofNat 32 s.opc.toNat) s s) ∧
    exec (.msrcQ g pj body) s = .next (withSource pj body s.q s s) ∧
    exec (.msrcVma g pj body) s = .next (withSource pj body s.vma s s) ∧
    exec (.msrcMd g pj body) s = .next (withSource pj body s.md s s) ∧
    exec (.msrcLc g pj body) s = .next (withSource pj body (if s.lc.getLsbD 29 then s.lc else s.lc &&& ~~~1) s s) ∧
    exec (.msrcPdlBufferPointer g pj body) s = .next (withSource pj body (s.pdl.get s.pdlPtr.toNat) s s)

/-- R162 (D12, D43), R165, R166 (D12): the value is computed before the pop, and the pop happens whatever the
instruction does. -/
def Obligations.PoppingAndProbingSources : Prop :=
  ∀ (g : Ignored) (pj : Bool) (body : Body) (s : State),
    let top := s.spc.get s.spcPtr.toNat
    let map := translateVa s (BitVec.ofNat 24 s.md.toNat)
    exec (.msrcSpcPtrAndDataPop g pj body) s = .next (withSource pj body
      ((s.spcPtr.setWidth 32 <<< 24) ||| top.setWidth 32) { s with spcPtr := s.spcPtr - 1 } s) ∧
    exec (.msrcPdlBufferPointerPop g pj body) s = .next (withSource pj body
      (s.pdl.get s.pdlPtr.toNat) { s with pdlPtr := s.pdlPtr - 1 } s) ∧
    ∃ u, sameButCache s u ∧ exec (.msrcMapMd g pj body) s = .next (withSource pj body
      (((flagBit s.writeFault).setWidth 32 <<< 31) ||| ((flagBit s.accessFault).setWidth 32 <<< 30) |||
        (map.l1.setWidth 32 <<< 24) ||| map.l2.setWidth 32) u s)

/-- R168: a model draws any 32-bit value (log 5, log 29); which word it is, nothing says. A word of the BYTE class, an
ALU word and so on go on with it. -/
def Obligations.UndefinedSources : Prop :=
  ∀ (g : Ignored) (pj : Bool) (body : Body) (s : State),
    let t := { s with freeCount := s.freeCount + 1 }
    (∃ v, exec (.msrcUndef04 g pj body) s = .next (withSource pj body v t s)) ∧
    (∃ v, exec (.msrcUndef15 g pj body) s = .next (withSource pj body v t s)) ∧
    (∃ v, exec (.msrcUndef16 g pj body) s = .next (withSource pj body v t s)) ∧
    (∃ v, exec (.msrcUndef17 g pj body) s = .next (withSource pj body v t s)) ∧
    (∃ v, exec (.msrcUndef20 g pj body) s = .next (withSource pj body v t s)) ∧
    (∃ v, exec (.msrcUndef21 g pj body) s = .next (withSource pj body v t s)) ∧
    (∃ v, exec (.msrcUndef22 g pj body) s = .next (withSource pj body v t s)) ∧
    (∃ v, exec (.msrcUndef23 g pj body) s = .next (withSource pj body v t s)) ∧
    (∃ v, exec (.msrcUndef26 g pj body) s = .next (withSource pj body v t s)) ∧
    (∃ v, exec (.msrcUndef27 g pj body) s = .next (withSource pj body v t s)) ∧
    (∃ v, exec (.msrcUndef30 g pj body) s = .next (withSource pj body v t s)) ∧
    (∃ v, exec (.msrcUndef31 g pj body) s = .next (withSource pj body v t s)) ∧
    (∃ v, exec (.msrcUndef32 g pj body) s = .next (withSource pj body v t s)) ∧
    (∃ v, exec (.msrcUndef33 g pj body) s = .next (withSource pj body v t s)) ∧
    (∃ v, exec (.msrcUndef34 g pj body) s = .next (withSource pj body v t s)) ∧
    (∃ v, exec (.msrcUndef35 g pj body) s = .next (withSource pj body v t s)) ∧
    (∃ v, exec (.msrcUndef36 g pj body) s = .next (withSource pj body v t s)) ∧
    (∃ v, exec (.msrcUndef37 g pj body) s = .next (withSource pj body v t s))

/-- R301, R304 to R315, R319 (codes and bit positions: D6, D13, D21, D27) with the capture of R302. No memory byte
changes but through a POPJ. -/
def Obligations.RegisterDestinations : Prop :=
  ∀ (ma : BitVec 5) (h : Head) (op : BusOp) (s : State),
    (∀ b24 addr, exec (.destA b24 addr h op) s = .next
      (destDone h op (fun v t => { t with aMem := t.aMem.set addr.toNat v }) s)) ∧
    exec (.destNone ma h op) s = .next (destDone h op (fun v t => captured ma v t) s) ∧
    exec (.destLc ma h op) s = .next (destDone h op (fun v t => captured ma v { t with lc := lcWritten t.lc v }) s) ∧
    exec (.destInterruptControl ma h op) s = .next (destDone h op (fun v t => captured ma v { t with lc := lcFlagged t.lc v }) s) ∧
    exec (.destPdlByPointer ma h op) s = .next (destDone h op (fun v t => captured ma v { t with pdl := t.pdl.set t.pdlPtr.toNat v }) s) ∧
    exec (.destPdlByPointerPush ma h op) s = .next (destDone h op (fun v t => captured ma v { t with
      pdlPtr := t.pdlPtr + 1, pdl := t.pdl.set (t.pdlPtr + 1).toNat v }) s) ∧
    exec (.destPdlByIndex ma h op) s = .next (destDone h op (fun v t => captured ma v { t with pdl := t.pdl.set t.pdlIndex.toNat v }) s) ∧
    exec (.destPdlIndex ma h op) s = .next (destDone h op (fun v t => captured ma v { t with pdlIndex := BitVec.ofNat 10 v.toNat }) s) ∧
    exec (.destPdlPointer ma h op) s = .next (destDone h op (fun v t => captured ma v { t with pdlPtr := BitVec.ofNat 10 v.toNat }) s) ∧
    exec (.destSpcPush ma h op) s = .next (destDone h op (fun v t => captured ma v { t with
      spcPtr := t.spcPtr + 1, spc := t.spc.set (t.spcPtr + 1).toNat (BitVec.ofNat 19 v.toNat) }) s) ∧
    exec (.destOaLo ma h op) s = .next (destDone h op (fun v t => captured ma v { t with oaLo := BitVec.ofNat 26 v.toNat, oaLoSet := true }) s) ∧
    exec (.destOaHi ma h op) s = .next (destDone h op (fun v t => captured ma v { t with oaHi := BitVec.ofNat 22 v.toNat, oaHiSet := true }) s) ∧
    exec (.destVma ma h op) s = .next (destDone h op (fun v t => captured ma v { t with vma := v }) s) ∧
    exec (.destMd ma h op) s = .next (destDone h op (fun v t => captured ma v { t with md := v }) s)

/-- R316 to R318, R320 to R322 (D13, D25). What a started cycle and a map write do is stated by DeniedCycles,
ReadOfMemory, WriteOfMemory and MapWrite. -/
def Obligations.MemoryDestinations : Prop :=
  ∀ (ma : BitVec 5) (h : Head) (op : BusOp) (s : State),
    exec (.destVmaStartRead ma h op) s = .next (destDone h op (fun v t => captured ma v (startRead { t with vma := v })) s) ∧
    exec (.destVmaStartWrite ma h op) s = .next (destDone h op (fun v t => captured ma v (startWrite { t with vma := v })) s) ∧
    exec (.destVmaWriteMap ma h op) s = .next (destDone h op (fun v t => captured ma v (writeMap { t with vma := v })) s) ∧
    exec (.destMdStartRead ma h op) s = .next (destDone h op (fun v t => captured ma v (startRead { t with md := v })) s) ∧
    exec (.destMdStartWrite ma h op) s = .next (destDone h op (fun v t => captured ma v (startWrite { t with md := v })) s) ∧
    exec (.destMdWriteMap ma h op) s = .next (destDone h op (fun v t => captured ma v (writeMap { t with md := v })) s)

/-- The hardware default of R323 (D36, log 6). -/
def Obligations.UndefinedDestinations : Prop :=
  ∀ (ma : BitVec 5) (h : Head) (op : BusOp) (s : State),
    let t := destDone h op (fun v t => captured ma v t) s
    exec (.destUndef03 ma h op) s = .next t ∧
    exec (.destUndef04 ma h op) s = .next t ∧
    exec (.destUndef05 ma h op) s = .next t ∧
    exec (.destUndef06 ma h op) s = .next t ∧
    exec (.destUndef07 ma h op) s = .next t ∧
    exec (.destUndef24 ma h op) s = .next t ∧
    exec (.destUndef25 ma h op) s = .next t ∧
    exec (.destUndef26 ma h op) s = .next t ∧
    exec (.destUndef27 ma h op) s = .next t ∧
    exec (.destUndef34 ma h op) s = .next t ∧
    exec (.destUndef35 ma h op) s = .next t ∧
    exec (.destUndef36 ma h op) s = .next t ∧
    exec (.destUndef37 ma h op) s = .next t ∧
    (∀ fd, exec (.destReserved fd ma h op) s = .next t)

/-- R302: after a functional destination `M[MADDR]` and `A[MADDR]` take the output bus value, which is seen through
the accessors of R396, and the direct form does not capture. With POPJ an LC advance may reach a device that writes
A-memory through the accessor, so the A-memory half is stated without POPJ. -/
def Obligations.MCaptureIsSeenInBothMemories : Prop :=
  ∀ (i : Instr) (op : BusOp) (s : State) (out q : Word),
    (∀ b b', i ≠ .nop b b') → busValue op (readM i.micro.head.src s).1 (readM i.micro.head.src s).2 = some (out, q) →
    (∀ f ma, i.micro.body = .bus op (.fn f ma) →
      ∃ t, exec i s = .next t ∧ hostReadM t ma = out ∧ (∀ k, k ≠ ma → hostReadM t k = hostReadM s k) ∧
        (i.micro.head.popj = false → hostReadA t (ma.setWidth 10) = out)) ∧
    ∀ b24 addr, i.micro.body = .bus op (.a b24 addr) →
      ∃ t, exec i s = .next t ∧ ∀ k, hostReadM t k = hostReadM s k

/-- R301 and R12 (D38): even below address 32 the M word keeps its value. -/
def Obligations.DirectAWriteLeavesM : Prop :=
  ∀ (b24 : Bool) (addr : BitVec 10) (g : Ignored) (ms : BitVec 5) (op : BusOp) (s : State) (out q : Word),
    busValue op (readMMem s ms) s = some (out, q) →
    ∃ t, exec (.destA b24 addr ⟨g, false, .m ms⟩ op) s = .next t ∧ t = { s with q := q, aMem := t.aMem } ∧
      readAMem t addr = out ∧ ∀ k, k ≠ addr → readAMem t k = readAMem s k

/-- R17 (written only by the Q control of an ALU-class instruction): a BYTE, JUMP or DISPATCH word, with any source,
destination, return or LC advance, leaves Q. -/
def Obligations.QChangesOnlyInTheAluClass : Prop :=
  ∀ (i : Instr) (s t : State), (∀ op d, i.micro.body ≠ .bus (.alu op) d) → exec i s = .next t → t.q = s.q

/-- R358 (no event changes u_pc or sets the stall flag on its own) for all words that do not transfer: a fault in a
started cycle changes no control state. -/
def Obligations.BusWordsDoNotTransfer : Prop :=
  ∀ (i : Instr) (op : BusOp) (d : Dest) (s t : State),
    i.micro.body = .bus op d → i.micro.head.popj = false → exec i s = .next t →
    t.uPc = s.uPc ∧ t.noExecNext = s.noExecNext ∧ t.p0 = s.p0 ∧ t.p1 = s.p1 ∧ t.p0Pc = s.p0Pc ∧ t.p1Pc = s.p1Pc ∧
      t.run = s.run ∧ t.cycles = s.cycles

/-- R357 and R252 (D37): no fault, warning, interrupt or device halts the engine. -/
def Obligations.OnlyAHaltStopsTheEngine : Prop :=
  ∀ (i : Instr) (s t : State), (∀ b b', i ≠ .nop b b') → exec i s = .next t →
    ((∃ op : JumpOp, i.micro.body = .jump op ∧ op.misc = .halt) → t.run = false) ∧
    ((∀ op : JumpOp, i.micro.body = .jump op → op.misc ≠ .halt) → t.run = s.run)

/-- R27, R29, R35, R36: each store and the only rule that writes it. What a device may change is R371, R372 and
R396's: `deviceFrame` (Safety.lean) lists it. That device calls stand in State as lists is the model's choice (log
19). -/
def Obligations.ControlStoresHaveOneWriter : Prop :=
  (∀ (i : Instr) (s t : State), exec i s = .next t →
    t.prom = s.prom ∧
    ((∀ b, i.micro.body ≠ .disp ⟨.write, b⟩) → t.dmem = s.dmem) ∧
    ((∀ op : JumpOp, i.micro.body = .jump op → (op.p && op.r) = false) → t.ucode = s.ucode) ∧
    ((∀ op ma, i.micro.body ≠ .bus op (.fn .vmaWriteMap ma) ∧ i.micro.body ≠ .bus op (.fn .mdWriteMap ma)) →
      t.l1 = s.l1 ∧ t.l2 = s.l2)) ∧
  (∀ s : State, deviceFrame s (poll s)) ∧ ∀ (cs : List DevCall) (s : State), deviceFrame s (devCalls cs s)

/-- R67, the table walk, with the entry format of R68: which bits of an entry are the permissions and the page number
is the spec's decision D29. The windows, which come first, are R66's, at the addresses of its decision D30. -/
def Obligations.TableWalk : Prop :=
  ∀ (s : State) (va : BitVec 24), tableWalked va = true →
    let t := translateVa s va
    t.l1 = s.l1.get (va.toNat / 2 ^ 13) ∧
    t.l2 = s.l2.get (t.l1.toNat * 32 + va.toNat / 2 ^ 8 % 32) ∧
    t.ppn = t.l2.extractLsb' 0 14 ∧ t.accessOk = t.l2.getLsbD 23 ∧ t.writeOk = t.l2.getLsbD 22 ∧
    t.off.toNat = va.toNat % 2 ^ 8

/-- R66 (the addresses and pages are the spec's decision D30). -/
def Obligations.HardwiredWindows : Prop :=
  ∀ (s : State) (va : BitVec 24),
    (va.toNat / 2 ^ 15 = 0o770 ∨ va.toNat / 2 ^ 15 = 0o772 →
      translateVa s va = ⟨0o36000, true, true, va.extractLsb' 0 8, 0, 0xC00000 ||| 0o36000⟩) ∧
    (va.toNat / 2 ^ 8 = 0o77377400 / 2 ^ 8 →
      translateVa s va = ⟨0o36777, true, true, va.extractLsb' 0 8, 0, 0xC00000 ||| 0o36777⟩)

/-- R80, R81 with the clearing of R82 and the captures of R351, R352 (the write-denied case is the spec's decision
D26). This is the whole of taking an exception on this hardware: nothing is saved, no handler is entered (R358). -/
def Obligations.DeniedCycles : Prop :=
  ∀ s : State,
    let t := translateVa s (cycleAddress s)
    (t.accessOk = false →
      sameButCache { s with accessFault := true, writeFault := false, pageFault := true, opc := t.ppn } (startRead s) ∧
      sameButCache { s with accessFault := true, writeFault := false, pageFault := true, opc := t.ppn } (startWrite s)) ∧
    (t.accessOk = true → t.writeOk = false →
      sameButCache { s with accessFault := false, writeFault := true, pageFault := true, opc := t.ppn }
        (startWrite s))

/-- R72, R71, R325 (D25, D31, D44). -/
def Obligations.ReadOfMemory : Prop :=
  ∀ s : State,
    let t := translateVa s (cycleAddress s)
    t.accessOk = true → backedPage s t.ppn = true →
    ∃ v, sameButCache
        { s with
          accessFault := false, writeFault := false, pageFault := false, newMd := v, newMdDelay := 2
          pages := pagesAfter s t.ppn } (startRead s) ∧
      (pageExists s t.ppn = true → v = readWord s.mem (cellKey t.ppn t.off)) ∧
      (pageExists s t.ppn = false → v = 0)

/-- R73, R71, R326 (D26, D31); the byte order inside a word is R63's (D35, log 24). -/
def Obligations.WriteOfMemory : Prop :=
  ∀ s : State,
    let t := translateVa s (cycleAddress s)
    t.accessOk = true → t.writeOk = true → backedPage s t.ppn = true →
    let k := cellKey t.ppn t.off
    let u := startWrite s
    sameButCache
      { s with
        accessFault := false, writeFault := false, pageFault := false, pages := pagesAfter s t.ppn, mem := u.mem } u ∧
    readWord u.mem k = s.md ∧ ∀ x, x < k ∨ k + 4 ≤ x → readByte u.mem x = readByte s.mem x

/-- R85: a later read of the same location by the engine sees the latest earlier write; R87 and R372 for devices,
whose accesses bypass translation and permission and set no fault flag. That device calls stand in State as lists is
the model's choice (log 19). -/
def Obligations.ReadAfterWrite : Prop :=
  (∀ s u : State,
    let t := translateVa s (cycleAddress s)
    t.accessOk = true → t.writeOk = true → backedPage s t.ppn = true →
    u.mem = (startWrite s).mem → u.pages = (startWrite s).pages →
    (physRead t.ppn t.off 0 u).1 = s.md ∧
    (u.l1 = s.l1 → u.l2 = s.l2 → cycleAddress u = cycleAddress s →
      (startRead u).newMd = s.md ∧ (startRead u).newMdDelay = 2 ∧ (startRead u).pageFault = false)) ∧
  ∀ (p : Ppn) (o : BitVec 8) (v : Word) (s u : State), backedPage s p = true →
    let d := devCalls [.writePhy p o v] s
    d = { s with pages := pagesAfter s p, mem := d.mem } ∧
    (∀ x, x < cellKey p o ∨ cellKey p o + 4 ≤ x → readByte d.mem x = readByte s.mem x) ∧
    (u.mem = d.mem → u.pages = d.pages →
      (physRead p o 0 u).1 = v ∧ devCalls [.readPhy p o] u = u ∧
      let t := translateVa u (cycleAddress u)
      (t.accessOk = true → t.ppn = p → t.off = o → (startRead u).newMd = v))

/-- R72, R73 (the value is the spec's decision D31). -/
def Obligations.AbsentPages : Prop :=
  ∀ s : State,
    let t := translateVa s (cycleAddress s)
    t.accessOk = true → ordinaryPage t.ppn = true → backedPage s t.ppn = false →
    sameButCache
      { s with accessFault := false, writeFault := false, pageFault := false, newMd := 0xFFFFFFFF, newMdDelay := 2 }
      (startRead s) ∧
    (t.writeOk = true →
      sameButCache { s with accessFault := false, writeFault := false, pageFault := false } (startWrite s))

/-- Frame of R317 and R321 with the capture of R302: a store goes to the translated word only, allowed or denied
(R358). Device and unibus pages are DeviceRouting's and StatusRegisterOnTheBus's. -/
def Obligations.StoreFrame : Prop :=
  ∀ (ma : BitVec 5) (g : Ignored) (src : MSrc) (op : BusOp) (s : State) (out q : Word),
    let r := (readM src s).2
    busValue op (readM src s).1 r = some (out, q) →
    let frame := fun (va : BitVec 24) (t : State) =>
      ordinaryPage (translateVa r va).ppn = true →
      let k := cellKey (translateVa r va).ppn (translateVa r va).off
      let allowed := (translateVa r va).accessOk && (translateVa r va).writeOk
      t = { r with
        q := q, vma := t.vma, md := t.md, mMem := t.mMem, aMem := t.aMem, mem := t.mem, pages := t.pages
        cache := t.cache, accessFault := t.accessFault, writeFault := t.writeFault, pageFault := t.pageFault
        opc := t.opc } ∧
      (∀ x, x < k ∨ k + 4 ≤ x → readByte t.mem x = readByte r.mem x) ∧
      (allowed = false → t.mem = r.mem ∧ t.pages = r.pages) ∧ (allowed = true → t.opc = r.opc) ∧
      (∀ x, x ≠ ma → readMMem t x = readMMem r x) ∧ ∀ x, x ≠ ma.setWidth 10 → readAMem t x = readAMem r x
    (∃ t, exec (.destVmaStartWrite ma ⟨g, false, src⟩ op) s = .next t ∧ t.vma = out ∧ t.md = r.md ∧
      frame (out.extractLsb' 0 24) t) ∧
    ∃ t, exec (.destMdStartWrite ma ⟨g, false, src⟩ op) s = .next t ∧ t.md = out ∧ t.vma = r.vma ∧
      frame (r.vma.extractLsb' 0 24) t

/-- R62 and R300: memory is reached by the four start destinations and the LC advance only, and of the advances only
by those with NEED-FETCH set (R330); `Ruled.memoryCycle` computes whether there is one. A map write may allocate a
page (R324), whose bytes read 0 before and after. A dispatch entry with P and R pops only by POPJ (log 8), and a taken
JUMP with P and R pops what it pushed (log 9). -/
def Obligations.NonStoringFormsKeepMemory : Prop :=
  ∀ (i : Instr) (s : State),
    let m := (readM i.micro.head.src s).1
    let t := if isDispatchWrite i.micro.body then s else (readM i.micro.head.src s).2
    memoryCycle i.micro.head.popj i.micro.body m t = false →
    ∃ u, exec i s = .next u ∧ ∀ x, readByte u.mem x = readByte s.mem x

/-- R74, R370, R371, R372. That the answers and the calls stand in State as lists is the model's choice (log 19), and
so are what happens when no answer is left (log 20), the order of log and calls (log 21), and that a device reached by
DMA answers from the same list (log 22). -/
def Obligations.DeviceRouting : Prop :=
  ∀ (s : State) (v : Word) (calls : List DevCall) (rest : List DevAnswer),
    let t := translateVa s (cycleAddress s)
    let begun := fun (c : Cache) (a : DevAccess) =>
      { s with accessFault := false, writeFault := false, pageFault := false, cache := c, devLog := a :: s.devLog }
    let reads : DevAccess := .read t.ppn t.off (cycleAddress s)
    let writes : DevAccess := .write t.ppn t.off s.md (cycleAddress s)
    (t.accessOk = true → isDevicePage t.ppn = true → s.devAnswers = ⟨v, calls⟩ :: rest →
      (∃ c, startRead s = { devCalls calls { begun c reads with devAnswers := rest } with newMd := v, newMdDelay := 2 }) ∧
      (t.writeOk = true → ∃ c, startWrite s = devCalls calls { begun c writes with devAnswers := rest })) ∧
    (t.accessOk = true → isDevicePage t.ppn = true → s.devAnswers = [] →
      (∃ c x, startRead s =
        { begun c reads with newMd := x, newMdDelay := 2, freeCount := s.freeCount + 1 }) ∧
      (t.writeOk = true → ∃ c, startWrite s = begun c writes)) ∧
    ∀ (p : Ppn) (o : BitVec 8) (w : Word) (cs : List DevCall),
      devCalls (.readPhy p o :: cs) s = devCalls cs (physRead p o 0 s).2 ∧
      devCalls (.writePhy p o w :: cs) s = devCalls cs (physWrite p o w 0 s) ∧
      devCalls (.ensurePage p :: cs) s = devCalls cs (ensurePage p s) ∧
      (isDevicePage p = true → s.devAnswers = ⟨v, calls⟩ :: rest →
        physRead p o 0 s = (v, devCalls calls { s with devAnswers := rest, devLog := .read p o 0 :: s.devLog }) ∧
        physWrite p o w 0 s = devCalls calls { s with devAnswers := rest, devLog := .write p o w 0 :: s.devLog })

/-- R324 (bit positions: D29), R70. -/
def Obligations.MapWrite : Prop :=
  ∀ s : State,
    let i1 := s.md.toNat % 2 ^ 24 / 2 ^ 13
    let u := writeMap s
    let bucket := if s.vma.getLsbD 26 then s.vma.extractLsb' 27 5 else s.l1.get i1
    let i2 := bucket.toNat * 32 + s.md.toNat / 2 ^ 8 % 32
    u = { s with l1 := u.l1, l2 := u.l2, cache := u.cache, pages := u.pages } ∧
    u.l1.get i1 = bucket ∧ (∀ k, k ≠ i1 → u.l1.get k = s.l1.get k) ∧
    (s.vma.getLsbD 25 = true →
      u.l2.get i2 = s.vma.extractLsb' 0 24 ∧ (∀ k, k ≠ i2 → u.l2.get k = s.l2.get k) ∧
      u.pages = if s.vma.toNat % 2 ^ 14 < 8192 then insertPage s.pages (s.vma.toNat % 2 ^ 14) else s.pages) ∧
    (s.vma.getLsbD 25 = false → u.l2 = s.l2 ∧ u.pages = s.pages) ∧
    (s.vma.getLsbD 26 = false → s.vma.getLsbD 25 = false → u = s) ∧
    ((s.vma.getLsbD 26 || s.vma.getLsbD 25) = true → u.cache.valid = false)

/-- R70's property, R410. -/
def Obligations.MapWriteIsSeenAtOnce : Prop :=
  ∀ s : State, s.vma.getLsbD 25 = true → tableWalked (mapAddress s) = true →
    translateVa (writeMap s) (mapAddress s) =
      ⟨s.vma.extractLsb' 0 14, s.vma.getLsbD 23, s.vma.getLsbD 22, s.md.extractLsb' 0 8,
        if s.vma.getLsbD 26 then s.vma.extractLsb' 27 5 else s.l1.get (l1Index (mapAddress s)),
        s.vma.extractLsb' 0 24⟩

/-- R362, R363 with R361 (bit positions and the clearing of the vector: D32), bit by bit. -/
def Obligations.UnibusInterrupts : Prop :=
  ∀ (vec : BitVec 16) (s : State),
    (s.isr.getLsbD 10 = false → assertUnibus vec s = s) ∧
    (s.isr.getLsbD 10 = true →
      let t := assertUnibus vec s
      t = { s with isr := t.isr, interruptPending := true } ∧
      ∀ k, k < 16 → t.isr.getLsbD k =
        if k = 15 then true else if 2 ≤ k ∧ k ≤ 9 then vec.getLsbD k else s.isr.getLsbD k) ∧
    (s.isr.getLsbD 15 = false → deassertUnibus s = s) ∧
    (s.isr.getLsbD 15 = true →
      let t := deassertUnibus s
      t = { s with isr := t.isr, interruptPending := s.isr.getLsbD 14 } ∧
      ∀ k, k < 16 → t.isr.getLsbD k = if k = 15 ∨ (2 ≤ k ∧ k ≤ 9) then false else s.isr.getLsbD k)

/-- R364 (no enable: the spec's decision D33), R365. -/
def Obligations.XbusInterrupts : Prop :=
  ∀ s : State,
    (let t := assertXbus s
     t = { s with isr := t.isr, interruptPending := true } ∧
     ∀ k, k < 16 → t.isr.getLsbD k = if k = 14 then true else s.isr.getLsbD k) ∧
    (s.isr.getLsbD 14 = false → deassertXbus s = s) ∧
    (s.isr.getLsbD 14 = true →
      let t := deassertXbus s
      t = { s with isr := t.isr, interruptPending := s.isr.getLsbD 15 } ∧
      ∀ k, k < 16 → t.isr.getLsbD k = if k = 14 then false else s.isr.getLsbD k)

/-- R366, R76, R77 (D24, D32). -/
def Obligations.StatusRegisterOnTheBus : Prop :=
  ∀ s : State,
    let t := translateVa s (cycleAddress s)
    t.accessOk = true → t.ppn = 0o37766 →
    let c : State := { s with accessFault := false, writeFault := false, pageFault := false }
    sameButCache
      { c with newMd := if t.off = 0o20 then BitVec.ofNat 32 s.isr.toNat else 0, newMdDelay := 2 } (startRead s) ∧
    (t.writeOk = true →
      let u := startWrite s
      (t.off ≠ 0o20 → t.off ≠ 0o21 → t.off ≠ 0o5 → sameButCache c u) ∧
      (t.off = 0o5 →
        sameButCache { c with promEnabled := if s.md.getLsbD 5 && s.md.getLsbD 2 then false else s.promEnabled } u) ∧
      (t.off = 0o20 ∨ t.off = 0o21 →
        sameButCache
          { c with isr := u.isr, interruptPending := u.isr.getLsbD 15 || u.isr.getLsbD 14 } u ∧
        ∀ k, k < 16 → u.isr.getLsbD k =
          if (t.off = 0o20 ∧ (k = 0 ∨ (10 ≤ k ∧ k ≤ 13))) ∨ (t.off = 0o21 ∧ (k = 15 ∨ (2 ≤ k ∧ k ≤ 9)))
          then s.md.getLsbD k else s.isr.getLsbD k))

/-- R367 (latency): the poll precedes execution. The order of the two polls in a coarse cycle is the model's choice
(log 21), so those cycles are left out here. -/
def Obligations.PollAssertionIsSeenInTheSameCycle : Prop :=
  ∀ (s : State) (rest : List (List DevCall)), s.run = true → s.pollFast = [.assertXbus] :: rest →
    s.cycles.toNat % 65536 ≠ 0 →
    ∃ t : State, step s = exec (decode t.p0) t ∧ t.interruptPending = true ∧ t.isr = s.isr ||| 0x4000 ∧
      t.pollFast = rest
end

