-- ==== Sys2Proof/Laws/Encoding.lean ====
section
/-! SUPPORT. The fields of a packed word, one lemma per field; code tables go both ways. -/

namespace Sys2Proof

theorem AluFn.ofCode_code (f : AluFn) : AluFn.ofCode f.code = f := by cases f <;> rfl
theorem OutSel.ofCode_code (f : OutSel) : OutSel.ofCode f.code = f := by cases f <;> rfl
theorem QCtl.ofCode_code (f : QCtl) : QCtl.ofCode f.code = f := by cases f <;> rfl
theorem JCond.ofCode_code (f : JCond) : JCond.ofCode f.code = f := by cases f <;> rfl
theorem JMisc.ofCode_code (f : JMisc) : JMisc.ofCode f.code = f := by cases f <;> rfl
theorem DispKind.ofCode_code (f : DispKind) : DispKind.ofCode f.code = f := by cases f <;> rfl
theorem ByteFn.ofCode_code (f : ByteFn) : ByteFn.ofCode f.code = f := by cases f <;> rfl
theorem FSrc.ofCode_code (f : FSrc) : FSrc.ofCode f.code = f := by cases f <;> rfl
theorem FDest.ofCode_code (f : FDest) : FDest.ofCode f.code = f := by cases f <;> rfl

theorem AluFn.code_ofCode : ∀ c : BitVec 6, (AluFn.ofCode c).code = c := by decide
theorem OutSel.code_ofCode : ∀ c : BitVec 2, (OutSel.ofCode c).code = c := by decide
theorem QCtl.code_ofCode : ∀ c : BitVec 2, (QCtl.ofCode c).code = c := by decide
theorem JCond.code_ofCode : ∀ c : BitVec 3, (JCond.ofCode c).code = c := by decide
theorem JMisc.code_ofCode : ∀ c : BitVec 2, (JMisc.ofCode c).code = c := by decide
theorem DispKind.code_ofCode : ∀ c : BitVec 2, (DispKind.ofCode c).code = c := by decide
theorem ByteFn.code_ofCode : ∀ c : BitVec 2, (ByteFn.ofCode c).code = c := by decide
theorem FSrc.code_ofCode : ∀ c : BitVec 5, (FSrc.ofCode c).code = c := by decide
theorem FDest.code_ofCode : ∀ c : BitVec 5, (FDest.ofCode c).code = c := by decide

/-- A field inside `IR[25:0]` is a field of the class part. -/
theorem Micro.pack_low (w : Micro) (lo len : Nat) (h : lo + len ≤ 26) :
    w.pack.extractLsb' lo len = w.body.low.extractLsb' lo len := by
  unfold Micro.pack
  simp (disch := omega) only [BitVec.extractLsb'_append_eq_of_add_le]

/-- A field inside `IR[31:26]` is a field of the M-source. -/
theorem Micro.pack_src (w : Micro) (lo len : Nat) (h : lo + len ≤ 6) :
    w.pack.extractLsb' (26 + lo) len = w.head.src.pack.extractLsb' lo len := by
  unfold Micro.pack
  simp (disch := omega) only [BitVec.extractLsb'_append_eq_of_le, BitVec.extractLsb'_append_eq_of_add_le]
  rw [show 26 + lo - 26 = lo by omega]

theorem Micro.pack_high (w : Micro) : w.pack.extractLsb' 32 10 = w.body.high := by
  unfold Micro.pack
  simp (disch := omega) only [BitVec.extractLsb'_append_eq_of_le, BitVec.extractLsb'_append_eq_of_add_le]
  exact BitVec.extractLsb'_eq_self

theorem Micro.pack_popj (w : Micro) : w.pack.extractLsb' 42 1 = bit1 w.head.popj := by
  unfold Micro.pack
  simp (disch := omega) only [BitVec.extractLsb'_append_eq_of_le, BitVec.extractLsb'_append_eq_of_add_le]
  exact BitVec.extractLsb'_eq_self

theorem Micro.pack_cls (w : Micro) : w.pack.extractLsb' 43 2 = w.body.cls := by
  unfold Micro.pack
  simp (disch := omega) only [BitVec.extractLsb'_append_eq_of_le, BitVec.extractLsb'_append_eq_of_add_le]
  exact BitVec.extractLsb'_eq_self

theorem Micro.pack_ilong (w : Micro) : w.pack.extractLsb' 45 1 = bit1 w.head.ign.ilong := by
  unfold Micro.pack
  simp (disch := omega) only [BitVec.extractLsb'_append_eq_of_le, BitVec.extractLsb'_append_eq_of_add_le]
  exact BitVec.extractLsb'_eq_self

theorem Micro.pack_stat (w : Micro) : w.pack.extractLsb' 46 1 = bit1 w.head.ign.stat := by
  unfold Micro.pack
  simp (disch := omega) only [BitVec.extractLsb'_append_eq_of_le, BitVec.extractLsb'_append_eq_of_add_le]
  exact BitVec.extractLsb'_eq_self

theorem Micro.pack_b47 (w : Micro) : w.pack.extractLsb' 47 1 = bit1 w.head.ign.b47 := by
  unfold Micro.pack
  simp (disch := omega) only [BitVec.extractLsb'_append_eq_of_le]
  exact BitVec.extractLsb'_eq_self

/-! The fields of `IR[25:0]`, class by class. -/

theorem Body.alu_fn (op : AluOp) (d : Dest) : (Body.bus (.alu op) d).low.extractLsb' 3 6 = op.fn.code := by
  simp only [Body.low]
  simp (disch := omega) only [BitVec.extractLsb'_append_eq_of_le, BitVec.extractLsb'_append_eq_of_add_le]
  exact BitVec.extractLsb'_eq_self

theorem Body.alu_ob (op : AluOp) (d : Dest) : (Body.bus (.alu op) d).low.extractLsb' 12 2 = op.ob.code := by
  simp only [Body.low]
  simp (disch := omega) only [BitVec.extractLsb'_append_eq_of_le, BitVec.extractLsb'_append_eq_of_add_le]
  exact BitVec.extractLsb'_eq_self

theorem Body.alu_qc (op : AluOp) (d : Dest) : (Body.bus (.alu op) d).low.extractLsb' 0 2 = op.qc.code := by
  simp only [Body.low]
  simp (disch := omega) only [BitVec.extractLsb'_append_eq_of_add_le]
  exact BitVec.extractLsb'_eq_self

theorem Body.alu_misc (op : AluOp) (d : Dest) : (Body.bus (.alu op) d).low.extractLsb' 10 2 = op.bits.misc := by
  simp only [Body.low]
  simp (disch := omega) only [BitVec.extractLsb'_append_eq_of_le, BitVec.extractLsb'_append_eq_of_add_le]
  exact BitVec.extractLsb'_eq_self

theorem Body.byte_fn (op : ByteOp) (d : Dest) : (Body.bus (.byte op) d).low.extractLsb' 12 2 = op.fn.code := by
  simp only [Body.low]
  simp (disch := omega) only [BitVec.extractLsb'_append_eq_of_le, BitVec.extractLsb'_append_eq_of_add_le]
  exact BitVec.extractLsb'_eq_self

/-- A field inside `IR[25:14]` of an ALU or BYTE word is a field of the destination. -/
theorem Body.bus_dest (op : BusOp) (d : Dest) (lo len : Nat) :
    (Body.bus op d).low.extractLsb' (14 + lo) len = d.pack.extractLsb' lo len := by
  cases op
  · simp only [Body.low]
    simp (disch := omega) only [BitVec.extractLsb'_append_eq_of_le]
    rw [show 14 + lo - 2 - 1 - 6 - 1 - 2 - 2 = lo by omega]
  · simp only [Body.low]
    simp (disch := omega) only [BitVec.extractLsb'_append_eq_of_le]
    rw [show 14 + lo - 5 - 5 - 2 - 2 = lo by omega]

theorem Body.jump_misc (op : JumpOp) : (Body.jump op).low.extractLsb' 10 2 = op.misc.code := by
  simp only [Body.low]
  simp (disch := omega) only [BitVec.extractLsb'_append_eq_of_le, BitVec.extractLsb'_append_eq_of_add_le]
  exact BitVec.extractLsb'_eq_self

/-- A field inside `IR[5:0]` of a JUMP word is a field of its test. -/
theorem Body.jump_test (op : JumpOp) (lo len : Nat) (h : lo + len ≤ 6) :
    (Body.jump op).low.extractLsb' lo len = op.test.pack.extractLsb' lo len := by
  simp only [Body.low]
  simp (disch := omega) only [BitVec.extractLsb'_append_eq_of_add_le]

theorem Body.jump_p (op : JumpOp) : (Body.jump op).low.extractLsb' 8 1 = bit1 op.p := by
  simp only [Body.low]
  simp (disch := omega) only [BitVec.extractLsb'_append_eq_of_le, BitVec.extractLsb'_append_eq_of_add_le]
  exact BitVec.extractLsb'_eq_self

theorem Body.jump_r (op : JumpOp) : (Body.jump op).low.extractLsb' 9 1 = bit1 op.r := by
  simp only [Body.low]
  simp (disch := omega) only [BitVec.extractLsb'_append_eq_of_le, BitVec.extractLsb'_append_eq_of_add_le]
  exact BitVec.extractLsb'_eq_self

theorem Body.jump_rp (op : JumpOp) : (Body.jump op).low.extractLsb' 8 2 = bit1 op.r ++ bit1 op.p := by
  rw [← BitVec.extractLsb'_append_extractLsb'_eq_extractLsb' (show 9 = 8 + 1 from rfl), Body.jump_r, Body.jump_p]

theorem Body.disp_kind (op : DispOp) : (Body.disp op).low.extractLsb' 10 2 = op.kind.code := by
  simp only [Body.low]
  simp (disch := omega) only [BitVec.extractLsb'_append_eq_of_le, BitVec.extractLsb'_append_eq_of_add_le]
  exact BitVec.extractLsb'_eq_self

/-! The fields of the operand parts. -/

theorem MSrc.pack_fs (f : FSrc) : (MSrc.fs f).pack = 1#1 ++ f.code := rfl
theorem MSrc.pack_m (a : BitVec 5) : (MSrc.m a).pack = 0#1 ++ a := rfl

theorem MSrc.pack_top (s : MSrc) : s.pack.extractLsb' 5 1 = if s.isPlain then 0#1 else 1#1 := by
  cases s <;> simp only [MSrc.pack, MSrc.isPlain] <;>
    rw [BitVec.extractLsb'_append_eq_of_le (by omega)] <;> exact BitVec.extractLsb'_eq_self

theorem Dest.pack_a (b24 : Bool) (addr : BitVec 10) : (Dest.a b24 addr).pack.extractLsb' 11 1 = 1#1 := by
  simp only [Dest.pack]
  simp (disch := omega) only [BitVec.extractLsb'_append_eq_of_le]
  exact BitVec.extractLsb'_eq_self

theorem Dest.pack_fn (f : FDest) (m : BitVec 5) : (Dest.fn f m).pack.extractLsb' 5 7 = 0#2 ++ f.code := by
  simp only [Dest.pack]
  rw [BitVec.extractLsb'_append_eq_of_le (by omega)]
  exact BitVec.extractLsb'_eq_self

theorem Dest.pack_reserved (fd m : BitVec 5) : (Dest.reserved fd m).pack.extractLsb' 10 2 = 1#2 := by
  simp only [Dest.pack]
  simp (disch := omega) only [BitVec.extractLsb'_append_eq_of_le]
  exact BitVec.extractLsb'_eq_self

theorem JTest.pack_table_top (c : JCond) (b : BitVec 2) : (JTest.table c b).pack.extractLsb' 5 1 = 1#1 := by
  simp only [JTest.pack]
  simp (disch := omega) only [BitVec.extractLsb'_append_eq_of_le]
  exact BitVec.extractLsb'_eq_self

theorem JTest.pack_table_code (c : JCond) (b : BitVec 2) : (JTest.table c b).pack.extractLsb' 0 3 = c.code := by
  simp only [JTest.pack]
  rw [BitVec.extractLsb'_append_eq_of_add_le (by omega)]
  exact BitVec.extractLsb'_eq_self

theorem JTest.pack_bit_top (rot : BitVec 5) : (JTest.bit rot).pack.extractLsb' 5 1 = 0#1 := by
  simp only [JTest.pack]
  rw [BitVec.extractLsb'_append_eq_of_le (by omega)]
  exact BitVec.extractLsb'_eq_self

end Sys2Proof
end

