-- ==== Sys2Proof/Laws/State.lean ====
section
/-! SUPPORT. One lemma per field of the state for every named update, true by definition: no proof unfolds a record
update. The updates that branch or act on devices have their lemmas in `Laws/Ops.lean`. -/

namespace Sys2Proof.Machine

/-! ### writeAMem -/

@[simp] theorem writeAMem_uPc (i : BitVec 10) (v : Word) (s : State) : (writeAMem i v s).uPc = s.uPc := rfl
@[simp] theorem writeAMem_p0 (i : BitVec 10) (v : Word) (s : State) : (writeAMem i v s).p0 = s.p0 := rfl
@[simp] theorem writeAMem_p1 (i : BitVec 10) (v : Word) (s : State) : (writeAMem i v s).p1 = s.p1 := rfl
@[simp] theorem writeAMem_p0Pc (i : BitVec 10) (v : Word) (s : State) : (writeAMem i v s).p0Pc = s.p0Pc := rfl
@[simp] theorem writeAMem_p1Pc (i : BitVec 10) (v : Word) (s : State) : (writeAMem i v s).p1Pc = s.p1Pc := rfl
@[simp] theorem writeAMem_noExecNext (i : BitVec 10) (v : Word) (s : State) :
    (writeAMem i v s).noExecNext = s.noExecNext := rfl
@[simp] theorem writeAMem_oaLo (i : BitVec 10) (v : Word) (s : State) : (writeAMem i v s).oaLo = s.oaLo := rfl
@[simp] theorem writeAMem_oaLoSet (i : BitVec 10) (v : Word) (s : State) :
    (writeAMem i v s).oaLoSet = s.oaLoSet := rfl
@[simp] theorem writeAMem_oaHi (i : BitVec 10) (v : Word) (s : State) : (writeAMem i v s).oaHi = s.oaHi := rfl
@[simp] theorem writeAMem_oaHiSet (i : BitVec 10) (v : Word) (s : State) :
    (writeAMem i v s).oaHiSet = s.oaHiSet := rfl
@[simp] theorem writeAMem_run (i : BitVec 10) (v : Word) (s : State) : (writeAMem i v s).run = s.run := rfl
@[simp] theorem writeAMem_promEnabled (i : BitVec 10) (v : Word) (s : State) :
    (writeAMem i v s).promEnabled = s.promEnabled := rfl
@[simp] theorem writeAMem_cycles (i : BitVec 10) (v : Word) (s : State) : (writeAMem i v s).cycles = s.cycles := rfl
@[simp] theorem writeAMem_q (i : BitVec 10) (v : Word) (s : State) : (writeAMem i v s).q = s.q := rfl
@[simp] theorem writeAMem_vma (i : BitVec 10) (v : Word) (s : State) : (writeAMem i v s).vma = s.vma := rfl
@[simp] theorem writeAMem_md (i : BitVec 10) (v : Word) (s : State) : (writeAMem i v s).md = s.md := rfl
@[simp] theorem writeAMem_newMd (i : BitVec 10) (v : Word) (s : State) : (writeAMem i v s).newMd = s.newMd := rfl
@[simp] theorem writeAMem_newMdDelay (i : BitVec 10) (v : Word) (s : State) :
    (writeAMem i v s).newMdDelay = s.newMdDelay := rfl
@[simp] theorem writeAMem_lc (i : BitVec 10) (v : Word) (s : State) : (writeAMem i v s).lc = s.lc := rfl
@[simp] theorem writeAMem_dispatchConstant (i : BitVec 10) (v : Word) (s : State) :
    (writeAMem i v s).dispatchConstant = s.dispatchConstant := rfl
@[simp] theorem writeAMem_opc (i : BitVec 10) (v : Word) (s : State) : (writeAMem i v s).opc = s.opc := rfl
@[simp] theorem writeAMem_pdlPtr (i : BitVec 10) (v : Word) (s : State) : (writeAMem i v s).pdlPtr = s.pdlPtr := rfl
@[simp] theorem writeAMem_pdlIndex (i : BitVec 10) (v : Word) (s : State) :
    (writeAMem i v s).pdlIndex = s.pdlIndex := rfl
@[simp] theorem writeAMem_spcPtr (i : BitVec 10) (v : Word) (s : State) : (writeAMem i v s).spcPtr = s.spcPtr := rfl
@[simp] theorem writeAMem_accessFault (i : BitVec 10) (v : Word) (s : State) :
    (writeAMem i v s).accessFault = s.accessFault := rfl
@[simp] theorem writeAMem_writeFault (i : BitVec 10) (v : Word) (s : State) :
    (writeAMem i v s).writeFault = s.writeFault := rfl
@[simp] theorem writeAMem_pageFault (i : BitVec 10) (v : Word) (s : State) :
    (writeAMem i v s).pageFault = s.pageFault := rfl
@[simp] theorem writeAMem_isr (i : BitVec 10) (v : Word) (s : State) : (writeAMem i v s).isr = s.isr := rfl
@[simp] theorem writeAMem_interruptPending (i : BitVec 10) (v : Word) (s : State) :
    (writeAMem i v s).interruptPending = s.interruptPending := rfl
@[simp] theorem writeAMem_cache (i : BitVec 10) (v : Word) (s : State) : (writeAMem i v s).cache = s.cache := rfl
@[simp] theorem writeAMem_aMem (i : BitVec 10) (v : Word) (s : State) :
    (writeAMem i v s).aMem = s.aMem.set i.toNat v := rfl
@[simp] theorem writeAMem_mMem (i : BitVec 10) (v : Word) (s : State) : (writeAMem i v s).mMem = s.mMem := rfl
@[simp] theorem writeAMem_pdl (i : BitVec 10) (v : Word) (s : State) : (writeAMem i v s).pdl = s.pdl := rfl
@[simp] theorem writeAMem_spc (i : BitVec 10) (v : Word) (s : State) : (writeAMem i v s).spc = s.spc := rfl
@[simp] theorem writeAMem_dmem (i : BitVec 10) (v : Word) (s : State) : (writeAMem i v s).dmem = s.dmem := rfl
@[simp] theorem writeAMem_ucode (i : BitVec 10) (v : Word) (s : State) : (writeAMem i v s).ucode = s.ucode := rfl
@[simp] theorem writeAMem_prom (i : BitVec 10) (v : Word) (s : State) : (writeAMem i v s).prom = s.prom := rfl
@[simp] theorem writeAMem_l1 (i : BitVec 10) (v : Word) (s : State) : (writeAMem i v s).l1 = s.l1 := rfl
@[simp] theorem writeAMem_l2 (i : BitVec 10) (v : Word) (s : State) : (writeAMem i v s).l2 = s.l2 := rfl
@[simp] theorem writeAMem_pages (i : BitVec 10) (v : Word) (s : State) : (writeAMem i v s).pages = s.pages := rfl
@[simp] theorem writeAMem_mem (i : BitVec 10) (v : Word) (s : State) : (writeAMem i v s).mem = s.mem := rfl
@[simp] theorem writeAMem_ramLast (i : BitVec 10) (v : Word) (s : State) :
    (writeAMem i v s).ramLast = s.ramLast := rfl
@[simp] theorem writeAMem_pcHistory (i : BitVec 10) (v : Word) (s : State) :
    (writeAMem i v s).pcHistory = s.pcHistory := rfl
@[simp] theorem writeAMem_macroHistory (i : BitVec 10) (v : Word) (s : State) :
    (writeAMem i v s).macroHistory = s.macroHistory := rfl
@[simp] theorem writeAMem_pcHistoryDepth (i : BitVec 10) (v : Word) (s : State) :
    (writeAMem i v s).pcHistoryDepth = s.pcHistoryDepth := rfl
@[simp] theorem writeAMem_pollFast (i : BitVec 10) (v : Word) (s : State) :
    (writeAMem i v s).pollFast = s.pollFast := rfl
@[simp] theorem writeAMem_pollSlow (i : BitVec 10) (v : Word) (s : State) :
    (writeAMem i v s).pollSlow = s.pollSlow := rfl
@[simp] theorem writeAMem_devAnswers (i : BitVec 10) (v : Word) (s : State) :
    (writeAMem i v s).devAnswers = s.devAnswers := rfl
@[simp] theorem writeAMem_devLog (i : BitVec 10) (v : Word) (s : State) : (writeAMem i v s).devLog = s.devLog := rfl
@[simp] theorem writeAMem_freeCount (i : BitVec 10) (v : Word) (s : State) :
    (writeAMem i v s).freeCount = s.freeCount := rfl

/-! ### writeM -/

@[simp] theorem writeM_uPc (i : BitVec 5) (v : Word) (s : State) : (writeM i v s).uPc = s.uPc := rfl
@[simp] theorem writeM_p0 (i : BitVec 5) (v : Word) (s : State) : (writeM i v s).p0 = s.p0 := rfl
@[simp] theorem writeM_p1 (i : BitVec 5) (v : Word) (s : State) : (writeM i v s).p1 = s.p1 := rfl
@[simp] theorem writeM_p0Pc (i : BitVec 5) (v : Word) (s : State) : (writeM i v s).p0Pc = s.p0Pc := rfl
@[simp] theorem writeM_p1Pc (i : BitVec 5) (v : Word) (s : State) : (writeM i v s).p1Pc = s.p1Pc := rfl
@[simp] theorem writeM_noExecNext (i : BitVec 5) (v : Word) (s : State) :
    (writeM i v s).noExecNext = s.noExecNext := rfl
@[simp] theorem writeM_oaLo (i : BitVec 5) (v : Word) (s : State) : (writeM i v s).oaLo = s.oaLo := rfl
@[simp] theorem writeM_oaLoSet (i : BitVec 5) (v : Word) (s : State) : (writeM i v s).oaLoSet = s.oaLoSet := rfl
@[simp] theorem writeM_oaHi (i : BitVec 5) (v : Word) (s : State) : (writeM i v s).oaHi = s.oaHi := rfl
@[simp] theorem writeM_oaHiSet (i : BitVec 5) (v : Word) (s : State) : (writeM i v s).oaHiSet = s.oaHiSet := rfl
@[simp] theorem writeM_run (i : BitVec 5) (v : Word) (s : State) : (writeM i v s).run = s.run := rfl
@[simp] theorem writeM_promEnabled (i : BitVec 5) (v : Word) (s : State) :
    (writeM i v s).promEnabled = s.promEnabled := rfl
@[simp] theorem writeM_cycles (i : BitVec 5) (v : Word) (s : State) : (writeM i v s).cycles = s.cycles := rfl
@[simp] theorem writeM_q (i : BitVec 5) (v : Word) (s : State) : (writeM i v s).q = s.q := rfl
@[simp] theorem writeM_vma (i : BitVec 5) (v : Word) (s : State) : (writeM i v s).vma = s.vma := rfl
@[simp] theorem writeM_md (i : BitVec 5) (v : Word) (s : State) : (writeM i v s).md = s.md := rfl
@[simp] theorem writeM_newMd (i : BitVec 5) (v : Word) (s : State) : (writeM i v s).newMd = s.newMd := rfl
@[simp] theorem writeM_newMdDelay (i : BitVec 5) (v : Word) (s : State) :
    (writeM i v s).newMdDelay = s.newMdDelay := rfl
@[simp] theorem writeM_lc (i : BitVec 5) (v : Word) (s : State) : (writeM i v s).lc = s.lc := rfl
@[simp] theorem writeM_dispatchConstant (i : BitVec 5) (v : Word) (s : State) :
    (writeM i v s).dispatchConstant = s.dispatchConstant := rfl
@[simp] theorem writeM_opc (i : BitVec 5) (v : Word) (s : State) : (writeM i v s).opc = s.opc := rfl
@[simp] theorem writeM_pdlPtr (i : BitVec 5) (v : Word) (s : State) : (writeM i v s).pdlPtr = s.pdlPtr := rfl
@[simp] theorem writeM_pdlIndex (i : BitVec 5) (v : Word) (s : State) : (writeM i v s).pdlIndex = s.pdlIndex := rfl
@[simp] theorem writeM_spcPtr (i : BitVec 5) (v : Word) (s : State) : (writeM i v s).spcPtr = s.spcPtr := rfl
@[simp] theorem writeM_accessFault (i : BitVec 5) (v : Word) (s : State) :
    (writeM i v s).accessFault = s.accessFault := rfl
@[simp] theorem writeM_writeFault (i : BitVec 5) (v : Word) (s : State) :
    (writeM i v s).writeFault = s.writeFault := rfl
@[simp] theorem writeM_pageFault (i : BitVec 5) (v : Word) (s : State) : (writeM i v s).pageFault = s.pageFault := rfl
@[simp] theorem writeM_isr (i : BitVec 5) (v : Word) (s : State) : (writeM i v s).isr = s.isr := rfl
@[simp] theorem writeM_interruptPending (i : BitVec 5) (v : Word) (s : State) :
    (writeM i v s).interruptPending = s.interruptPending := rfl
@[simp] theorem writeM_cache (i : BitVec 5) (v : Word) (s : State) : (writeM i v s).cache = s.cache := rfl
@[simp] theorem writeM_aMem (i : BitVec 5) (v : Word) (s : State) : (writeM i v s).aMem = s.aMem.set i.toNat v := rfl
@[simp] theorem writeM_mMem (i : BitVec 5) (v : Word) (s : State) : (writeM i v s).mMem = s.mMem.set i.toNat v := rfl
@[simp] theorem writeM_pdl (i : BitVec 5) (v : Word) (s : State) : (writeM i v s).pdl = s.pdl := rfl
@[simp] theorem writeM_spc (i : BitVec 5) (v : Word) (s : State) : (writeM i v s).spc = s.spc := rfl
@[simp] theorem writeM_dmem (i : BitVec 5) (v : Word) (s : State) : (writeM i v s).dmem = s.dmem := rfl
@[simp] theorem writeM_ucode (i : BitVec 5) (v : Word) (s : State) : (writeM i v s).ucode = s.ucode := rfl
@[simp] theorem writeM_prom (i : BitVec 5) (v : Word) (s : State) : (writeM i v s).prom = s.prom := rfl
@[simp] theorem writeM_l1 (i : BitVec 5) (v : Word) (s : State) : (writeM i v s).l1 = s.l1 := rfl
@[simp] theorem writeM_l2 (i : BitVec 5) (v : Word) (s : State) : (writeM i v s).l2 = s.l2 := rfl
@[simp] theorem writeM_pages (i : BitVec 5) (v : Word) (s : State) : (writeM i v s).pages = s.pages := rfl
@[simp] theorem writeM_mem (i : BitVec 5) (v : Word) (s : State) : (writeM i v s).mem = s.mem := rfl
@[simp] theorem writeM_ramLast (i : BitVec 5) (v : Word) (s : State) : (writeM i v s).ramLast = s.ramLast := rfl
@[simp] theorem writeM_pcHistory (i : BitVec 5) (v : Word) (s : State) : (writeM i v s).pcHistory = s.pcHistory := rfl
@[simp] theorem writeM_macroHistory (i : BitVec 5) (v : Word) (s : State) :
    (writeM i v s).macroHistory = s.macroHistory := rfl
@[simp] theorem writeM_pcHistoryDepth (i : BitVec 5) (v : Word) (s : State) :
    (writeM i v s).pcHistoryDepth = s.pcHistoryDepth := rfl
@[simp] theorem writeM_pollFast (i : BitVec 5) (v : Word) (s : State) : (writeM i v s).pollFast = s.pollFast := rfl
@[simp] theorem writeM_pollSlow (i : BitVec 5) (v : Word) (s : State) : (writeM i v s).pollSlow = s.pollSlow := rfl
@[simp] theorem writeM_devAnswers (i : BitVec 5) (v : Word) (s : State) :
    (writeM i v s).devAnswers = s.devAnswers := rfl
@[simp] theorem writeM_devLog (i : BitVec 5) (v : Word) (s : State) : (writeM i v s).devLog = s.devLog := rfl
@[simp] theorem writeM_freeCount (i : BitVec 5) (v : Word) (s : State) : (writeM i v s).freeCount = s.freeCount := rfl

/-! ### writePdl -/

@[simp] theorem writePdl_uPc (i : BitVec 10) (v : Word) (s : State) : (writePdl i v s).uPc = s.uPc := rfl
@[simp] theorem writePdl_p0 (i : BitVec 10) (v : Word) (s : State) : (writePdl i v s).p0 = s.p0 := rfl
@[simp] theorem writePdl_p1 (i : BitVec 10) (v : Word) (s : State) : (writePdl i v s).p1 = s.p1 := rfl
@[simp] theorem writePdl_p0Pc (i : BitVec 10) (v : Word) (s : State) : (writePdl i v s).p0Pc = s.p0Pc := rfl
@[simp] theorem writePdl_p1Pc (i : BitVec 10) (v : Word) (s : State) : (writePdl i v s).p1Pc = s.p1Pc := rfl
@[simp] theorem writePdl_noExecNext (i : BitVec 10) (v : Word) (s : State) :
    (writePdl i v s).noExecNext = s.noExecNext := rfl
@[simp] theorem writePdl_oaLo (i : BitVec 10) (v : Word) (s : State) : (writePdl i v s).oaLo = s.oaLo := rfl
@[simp] theorem writePdl_oaLoSet (i : BitVec 10) (v : Word) (s : State) : (writePdl i v s).oaLoSet = s.oaLoSet := rfl
@[simp] theorem writePdl_oaHi (i : BitVec 10) (v : Word) (s : State) : (writePdl i v s).oaHi = s.oaHi := rfl
@[simp] theorem writePdl_oaHiSet (i : BitVec 10) (v : Word) (s : State) : (writePdl i v s).oaHiSet = s.oaHiSet := rfl
@[simp] theorem writePdl_run (i : BitVec 10) (v : Word) (s : State) : (writePdl i v s).run = s.run := rfl
@[simp] theorem writePdl_promEnabled (i : BitVec 10) (v : Word) (s : State) :
    (writePdl i v s).promEnabled = s.promEnabled := rfl
@[simp] theorem writePdl_cycles (i : BitVec 10) (v : Word) (s : State) : (writePdl i v s).cycles = s.cycles := rfl
@[simp] theorem writePdl_q (i : BitVec 10) (v : Word) (s : State) : (writePdl i v s).q = s.q := rfl
@[simp] theorem writePdl_vma (i : BitVec 10) (v : Word) (s : State) : (writePdl i v s).vma = s.vma := rfl
@[simp] theorem writePdl_md (i : BitVec 10) (v : Word) (s : State) : (writePdl i v s).md = s.md := rfl
@[simp] theorem writePdl_newMd (i : BitVec 10) (v : Word) (s : State) : (writePdl i v s).newMd = s.newMd := rfl
@[simp] theorem writePdl_newMdDelay (i : BitVec 10) (v : Word) (s : State) :
    (writePdl i v s).newMdDelay = s.newMdDelay := rfl
@[simp] theorem writePdl_lc (i : BitVec 10) (v : Word) (s : State) : (writePdl i v s).lc = s.lc := rfl
@[simp] theorem writePdl_dispatchConstant (i : BitVec 10) (v : Word) (s : State) :
    (writePdl i v s).dispatchConstant = s.dispatchConstant := rfl
@[simp] theorem writePdl_opc (i : BitVec 10) (v : Word) (s : State) : (writePdl i v s).opc = s.opc := rfl
@[simp] theorem writePdl_pdlPtr (i : BitVec 10) (v : Word) (s : State) : (writePdl i v s).pdlPtr = s.pdlPtr := rfl
@[simp] theorem writePdl_pdlIndex (i : BitVec 10) (v : Word) (s : State) :
    (writePdl i v s).pdlIndex = s.pdlIndex := rfl
@[simp] theorem writePdl_spcPtr (i : BitVec 10) (v : Word) (s : State) : (writePdl i v s).spcPtr = s.spcPtr := rfl
@[simp] theorem writePdl_accessFault (i : BitVec 10) (v : Word) (s : State) :
    (writePdl i v s).accessFault = s.accessFault := rfl
@[simp] theorem writePdl_writeFault (i : BitVec 10) (v : Word) (s : State) :
    (writePdl i v s).writeFault = s.writeFault := rfl
@[simp] theorem writePdl_pageFault (i : BitVec 10) (v : Word) (s : State) :
    (writePdl i v s).pageFault = s.pageFault := rfl
@[simp] theorem writePdl_isr (i : BitVec 10) (v : Word) (s : State) : (writePdl i v s).isr = s.isr := rfl
@[simp] theorem writePdl_interruptPending (i : BitVec 10) (v : Word) (s : State) :
    (writePdl i v s).interruptPending = s.interruptPending := rfl
@[simp] theorem writePdl_cache (i : BitVec 10) (v : Word) (s : State) : (writePdl i v s).cache = s.cache := rfl
@[simp] theorem writePdl_aMem (i : BitVec 10) (v : Word) (s : State) : (writePdl i v s).aMem = s.aMem := rfl
@[simp] theorem writePdl_mMem (i : BitVec 10) (v : Word) (s : State) : (writePdl i v s).mMem = s.mMem := rfl
@[simp] theorem writePdl_pdl (i : BitVec 10) (v : Word) (s : State) :
    (writePdl i v s).pdl = s.pdl.set i.toNat v := rfl
@[simp] theorem writePdl_spc (i : BitVec 10) (v : Word) (s : State) : (writePdl i v s).spc = s.spc := rfl
@[simp] theorem writePdl_dmem (i : BitVec 10) (v : Word) (s : State) : (writePdl i v s).dmem = s.dmem := rfl
@[simp] theorem writePdl_ucode (i : BitVec 10) (v : Word) (s : State) : (writePdl i v s).ucode = s.ucode := rfl
@[simp] theorem writePdl_prom (i : BitVec 10) (v : Word) (s : State) : (writePdl i v s).prom = s.prom := rfl
@[simp] theorem writePdl_l1 (i : BitVec 10) (v : Word) (s : State) : (writePdl i v s).l1 = s.l1 := rfl
@[simp] theorem writePdl_l2 (i : BitVec 10) (v : Word) (s : State) : (writePdl i v s).l2 = s.l2 := rfl
@[simp] theorem writePdl_pages (i : BitVec 10) (v : Word) (s : State) : (writePdl i v s).pages = s.pages := rfl
@[simp] theorem writePdl_mem (i : BitVec 10) (v : Word) (s : State) : (writePdl i v s).mem = s.mem := rfl
@[simp] theorem writePdl_ramLast (i : BitVec 10) (v : Word) (s : State) : (writePdl i v s).ramLast = s.ramLast := rfl
@[simp] theorem writePdl_pcHistory (i : BitVec 10) (v : Word) (s : State) :
    (writePdl i v s).pcHistory = s.pcHistory := rfl
@[simp] theorem writePdl_macroHistory (i : BitVec 10) (v : Word) (s : State) :
    (writePdl i v s).macroHistory = s.macroHistory := rfl
@[simp] theorem writePdl_pcHistoryDepth (i : BitVec 10) (v : Word) (s : State) :
    (writePdl i v s).pcHistoryDepth = s.pcHistoryDepth := rfl
@[simp] theorem writePdl_pollFast (i : BitVec 10) (v : Word) (s : State) :
    (writePdl i v s).pollFast = s.pollFast := rfl
@[simp] theorem writePdl_pollSlow (i : BitVec 10) (v : Word) (s : State) :
    (writePdl i v s).pollSlow = s.pollSlow := rfl
@[simp] theorem writePdl_devAnswers (i : BitVec 10) (v : Word) (s : State) :
    (writePdl i v s).devAnswers = s.devAnswers := rfl
@[simp] theorem writePdl_devLog (i : BitVec 10) (v : Word) (s : State) : (writePdl i v s).devLog = s.devLog := rfl
@[simp] theorem writePdl_freeCount (i : BitVec 10) (v : Word) (s : State) :
    (writePdl i v s).freeCount = s.freeCount := rfl

/-! ### spcPush -/

@[simp] theorem spcPush_uPc (v : BitVec 19) (s : State) : (spcPush v s).uPc = s.uPc := rfl
@[simp] theorem spcPush_p0 (v : BitVec 19) (s : State) : (spcPush v s).p0 = s.p0 := rfl
@[simp] theorem spcPush_p1 (v : BitVec 19) (s : State) : (spcPush v s).p1 = s.p1 := rfl
@[simp] theorem spcPush_p0Pc (v : BitVec 19) (s : State) : (spcPush v s).p0Pc = s.p0Pc := rfl
@[simp] theorem spcPush_p1Pc (v : BitVec 19) (s : State) : (spcPush v s).p1Pc = s.p1Pc := rfl
@[simp] theorem spcPush_noExecNext (v : BitVec 19) (s : State) : (spcPush v s).noExecNext = s.noExecNext := rfl
@[simp] theorem spcPush_oaLo (v : BitVec 19) (s : State) : (spcPush v s).oaLo = s.oaLo := rfl
@[simp] theorem spcPush_oaLoSet (v : BitVec 19) (s : State) : (spcPush v s).oaLoSet = s.oaLoSet := rfl
@[simp] theorem spcPush_oaHi (v : BitVec 19) (s : State) : (spcPush v s).oaHi = s.oaHi := rfl
@[simp] theorem spcPush_oaHiSet (v : BitVec 19) (s : State) : (spcPush v s).oaHiSet = s.oaHiSet := rfl
@[simp] theorem spcPush_run (v : BitVec 19) (s : State) : (spcPush v s).run = s.run := rfl
@[simp] theorem spcPush_promEnabled (v : BitVec 19) (s : State) : (spcPush v s).promEnabled = s.promEnabled := rfl
@[simp] theorem spcPush_cycles (v : BitVec 19) (s : State) : (spcPush v s).cycles = s.cycles := rfl
@[simp] theorem spcPush_q (v : BitVec 19) (s : State) : (spcPush v s).q = s.q := rfl
@[simp] theorem spcPush_vma (v : BitVec 19) (s : State) : (spcPush v s).vma = s.vma := rfl
@[simp] theorem spcPush_md (v : BitVec 19) (s : State) : (spcPush v s).md = s.md := rfl
@[simp] theorem spcPush_newMd (v : BitVec 19) (s : State) : (spcPush v s).newMd = s.newMd := rfl
@[simp] theorem spcPush_newMdDelay (v : BitVec 19) (s : State) : (spcPush v s).newMdDelay = s.newMdDelay := rfl
@[simp] theorem spcPush_lc (v : BitVec 19) (s : State) : (spcPush v s).lc = s.lc := rfl
@[simp] theorem spcPush_dispatchConstant (v : BitVec 19) (s : State) :
    (spcPush v s).dispatchConstant = s.dispatchConstant := rfl
@[simp] theorem spcPush_opc (v : BitVec 19) (s : State) : (spcPush v s).opc = s.opc := rfl
@[simp] theorem spcPush_pdlPtr (v : BitVec 19) (s : State) : (spcPush v s).pdlPtr = s.pdlPtr := rfl
@[simp] theorem spcPush_pdlIndex (v : BitVec 19) (s : State) : (spcPush v s).pdlIndex = s.pdlIndex := rfl
@[simp] theorem spcPush_spcPtr (v : BitVec 19) (s : State) : (spcPush v s).spcPtr = s.spcPtr + 1 := rfl
@[simp] theorem spcPush_accessFault (v : BitVec 19) (s : State) : (spcPush v s).accessFault = s.accessFault := rfl
@[simp] theorem spcPush_writeFault (v : BitVec 19) (s : State) : (spcPush v s).writeFault = s.writeFault := rfl
@[simp] theorem spcPush_pageFault (v : BitVec 19) (s : State) : (spcPush v s).pageFault = s.pageFault := rfl
@[simp] theorem spcPush_isr (v : BitVec 19) (s : State) : (spcPush v s).isr = s.isr := rfl
@[simp] theorem spcPush_interruptPending (v : BitVec 19) (s : State) :
    (spcPush v s).interruptPending = s.interruptPending := rfl
@[simp] theorem spcPush_cache (v : BitVec 19) (s : State) : (spcPush v s).cache = s.cache := rfl
@[simp] theorem spcPush_aMem (v : BitVec 19) (s : State) : (spcPush v s).aMem = s.aMem := rfl
@[simp] theorem spcPush_mMem (v : BitVec 19) (s : State) : (spcPush v s).mMem = s.mMem := rfl
@[simp] theorem spcPush_pdl (v : BitVec 19) (s : State) : (spcPush v s).pdl = s.pdl := rfl
@[simp] theorem spcPush_spc (v : BitVec 19) (s : State) : (spcPush v s).spc = s.spc.set (s.spcPtr + 1).toNat v := rfl
@[simp] theorem spcPush_dmem (v : BitVec 19) (s : State) : (spcPush v s).dmem = s.dmem := rfl
@[simp] theorem spcPush_ucode (v : BitVec 19) (s : State) : (spcPush v s).ucode = s.ucode := rfl
@[simp] theorem spcPush_prom (v : BitVec 19) (s : State) : (spcPush v s).prom = s.prom := rfl
@[simp] theorem spcPush_l1 (v : BitVec 19) (s : State) : (spcPush v s).l1 = s.l1 := rfl
@[simp] theorem spcPush_l2 (v : BitVec 19) (s : State) : (spcPush v s).l2 = s.l2 := rfl
@[simp] theorem spcPush_pages (v : BitVec 19) (s : State) : (spcPush v s).pages = s.pages := rfl
@[simp] theorem spcPush_mem (v : BitVec 19) (s : State) : (spcPush v s).mem = s.mem := rfl
@[simp] theorem spcPush_ramLast (v : BitVec 19) (s : State) : (spcPush v s).ramLast = s.ramLast := rfl
@[simp] theorem spcPush_pcHistory (v : BitVec 19) (s : State) : (spcPush v s).pcHistory = s.pcHistory := rfl
@[simp] theorem spcPush_macroHistory (v : BitVec 19) (s : State) : (spcPush v s).macroHistory = s.macroHistory := rfl
@[simp] theorem spcPush_pcHistoryDepth (v : BitVec 19) (s : State) :
    (spcPush v s).pcHistoryDepth = s.pcHistoryDepth := rfl
@[simp] theorem spcPush_pollFast (v : BitVec 19) (s : State) : (spcPush v s).pollFast = s.pollFast := rfl
@[simp] theorem spcPush_pollSlow (v : BitVec 19) (s : State) : (spcPush v s).pollSlow = s.pollSlow := rfl
@[simp] theorem spcPush_devAnswers (v : BitVec 19) (s : State) : (spcPush v s).devAnswers = s.devAnswers := rfl
@[simp] theorem spcPush_devLog (v : BitVec 19) (s : State) : (spcPush v s).devLog = s.devLog := rfl
@[simp] theorem spcPush_freeCount (v : BitVec 19) (s : State) : (spcPush v s).freeCount = s.freeCount := rfl

/-! ### spcDrop -/

@[simp] theorem spcDrop_uPc (s : State) : (spcDrop s).uPc = s.uPc := rfl
@[simp] theorem spcDrop_p0 (s : State) : (spcDrop s).p0 = s.p0 := rfl
@[simp] theorem spcDrop_p1 (s : State) : (spcDrop s).p1 = s.p1 := rfl
@[simp] theorem spcDrop_p0Pc (s : State) : (spcDrop s).p0Pc = s.p0Pc := rfl
@[simp] theorem spcDrop_p1Pc (s : State) : (spcDrop s).p1Pc = s.p1Pc := rfl
@[simp] theorem spcDrop_noExecNext (s : State) : (spcDrop s).noExecNext = s.noExecNext := rfl
@[simp] theorem spcDrop_oaLo (s : State) : (spcDrop s).oaLo = s.oaLo := rfl
@[simp] theorem spcDrop_oaLoSet (s : State) : (spcDrop s).oaLoSet = s.oaLoSet := rfl
@[simp] theorem spcDrop_oaHi (s : State) : (spcDrop s).oaHi = s.oaHi := rfl
@[simp] theorem spcDrop_oaHiSet (s : State) : (spcDrop s).oaHiSet = s.oaHiSet := rfl
@[simp] theorem spcDrop_run (s : State) : (spcDrop s).run = s.run := rfl
@[simp] theorem spcDrop_promEnabled (s : State) : (spcDrop s).promEnabled = s.promEnabled := rfl
@[simp] theorem spcDrop_cycles (s : State) : (spcDrop s).cycles = s.cycles := rfl
@[simp] theorem spcDrop_q (s : State) : (spcDrop s).q = s.q := rfl
@[simp] theorem spcDrop_vma (s : State) : (spcDrop s).vma = s.vma := rfl
@[simp] theorem spcDrop_md (s : State) : (spcDrop s).md = s.md := rfl
@[simp] theorem spcDrop_newMd (s : State) : (spcDrop s).newMd = s.newMd := rfl
@[simp] theorem spcDrop_newMdDelay (s : State) : (spcDrop s).newMdDelay = s.newMdDelay := rfl
@[simp] theorem spcDrop_lc (s : State) : (spcDrop s).lc = s.lc := rfl
@[simp] theorem spcDrop_dispatchConstant (s : State) : (spcDrop s).dispatchConstant = s.dispatchConstant := rfl
@[simp] theorem spcDrop_opc (s : State) : (spcDrop s).opc = s.opc := rfl
@[simp] theorem spcDrop_pdlPtr (s : State) : (spcDrop s).pdlPtr = s.pdlPtr := rfl
@[simp] theorem spcDrop_pdlIndex (s : State) : (spcDrop s).pdlIndex = s.pdlIndex := rfl
@[simp] theorem spcDrop_spcPtr (s : State) : (spcDrop s).spcPtr = s.spcPtr - 1 := rfl
@[simp] theorem spcDrop_accessFault (s : State) : (spcDrop s).accessFault = s.accessFault := rfl
@[simp] theorem spcDrop_writeFault (s : State) : (spcDrop s).writeFault = s.writeFault := rfl
@[simp] theorem spcDrop_pageFault (s : State) : (spcDrop s).pageFault = s.pageFault := rfl
@[simp] theorem spcDrop_isr (s : State) : (spcDrop s).isr = s.isr := rfl
@[simp] theorem spcDrop_interruptPending (s : State) : (spcDrop s).interruptPending = s.interruptPending := rfl
@[simp] theorem spcDrop_cache (s : State) : (spcDrop s).cache = s.cache := rfl
@[simp] theorem spcDrop_aMem (s : State) : (spcDrop s).aMem = s.aMem := rfl
@[simp] theorem spcDrop_mMem (s : State) : (spcDrop s).mMem = s.mMem := rfl
@[simp] theorem spcDrop_pdl (s : State) : (spcDrop s).pdl = s.pdl := rfl
@[simp] theorem spcDrop_spc (s : State) : (spcDrop s).spc = s.spc := rfl
@[simp] theorem spcDrop_dmem (s : State) : (spcDrop s).dmem = s.dmem := rfl
@[simp] theorem spcDrop_ucode (s : State) : (spcDrop s).ucode = s.ucode := rfl
@[simp] theorem spcDrop_prom (s : State) : (spcDrop s).prom = s.prom := rfl
@[simp] theorem spcDrop_l1 (s : State) : (spcDrop s).l1 = s.l1 := rfl
@[simp] theorem spcDrop_l2 (s : State) : (spcDrop s).l2 = s.l2 := rfl
@[simp] theorem spcDrop_pages (s : State) : (spcDrop s).pages = s.pages := rfl
@[simp] theorem spcDrop_mem (s : State) : (spcDrop s).mem = s.mem := rfl
@[simp] theorem spcDrop_ramLast (s : State) : (spcDrop s).ramLast = s.ramLast := rfl
@[simp] theorem spcDrop_pcHistory (s : State) : (spcDrop s).pcHistory = s.pcHistory := rfl
@[simp] theorem spcDrop_macroHistory (s : State) : (spcDrop s).macroHistory = s.macroHistory := rfl
@[simp] theorem spcDrop_pcHistoryDepth (s : State) : (spcDrop s).pcHistoryDepth = s.pcHistoryDepth := rfl
@[simp] theorem spcDrop_pollFast (s : State) : (spcDrop s).pollFast = s.pollFast := rfl
@[simp] theorem spcDrop_pollSlow (s : State) : (spcDrop s).pollSlow = s.pollSlow := rfl
@[simp] theorem spcDrop_devAnswers (s : State) : (spcDrop s).devAnswers = s.devAnswers := rfl
@[simp] theorem spcDrop_devLog (s : State) : (spcDrop s).devLog = s.devLog := rfl
@[simp] theorem spcDrop_freeCount (s : State) : (spcDrop s).freeCount = s.freeCount := rfl

/-! ### setIsr -/

@[simp] theorem setIsr_uPc (v : BitVec 16) (s : State) : (setIsr v s).uPc = s.uPc := rfl
@[simp] theorem setIsr_p0 (v : BitVec 16) (s : State) : (setIsr v s).p0 = s.p0 := rfl
@[simp] theorem setIsr_p1 (v : BitVec 16) (s : State) : (setIsr v s).p1 = s.p1 := rfl
@[simp] theorem setIsr_p0Pc (v : BitVec 16) (s : State) : (setIsr v s).p0Pc = s.p0Pc := rfl
@[simp] theorem setIsr_p1Pc (v : BitVec 16) (s : State) : (setIsr v s).p1Pc = s.p1Pc := rfl
@[simp] theorem setIsr_noExecNext (v : BitVec 16) (s : State) : (setIsr v s).noExecNext = s.noExecNext := rfl
@[simp] theorem setIsr_oaLo (v : BitVec 16) (s : State) : (setIsr v s).oaLo = s.oaLo := rfl
@[simp] theorem setIsr_oaLoSet (v : BitVec 16) (s : State) : (setIsr v s).oaLoSet = s.oaLoSet := rfl
@[simp] theorem setIsr_oaHi (v : BitVec 16) (s : State) : (setIsr v s).oaHi = s.oaHi := rfl
@[simp] theorem setIsr_oaHiSet (v : BitVec 16) (s : State) : (setIsr v s).oaHiSet = s.oaHiSet := rfl
@[simp] theorem setIsr_run (v : BitVec 16) (s : State) : (setIsr v s).run = s.run := rfl
@[simp] theorem setIsr_promEnabled (v : BitVec 16) (s : State) : (setIsr v s).promEnabled = s.promEnabled := rfl
@[simp] theorem setIsr_cycles (v : BitVec 16) (s : State) : (setIsr v s).cycles = s.cycles := rfl
@[simp] theorem setIsr_q (v : BitVec 16) (s : State) : (setIsr v s).q = s.q := rfl
@[simp] theorem setIsr_vma (v : BitVec 16) (s : State) : (setIsr v s).vma = s.vma := rfl
@[simp] theorem setIsr_md (v : BitVec 16) (s : State) : (setIsr v s).md = s.md := rfl
@[simp] theorem setIsr_newMd (v : BitVec 16) (s : State) : (setIsr v s).newMd = s.newMd := rfl
@[simp] theorem setIsr_newMdDelay (v : BitVec 16) (s : State) : (setIsr v s).newMdDelay = s.newMdDelay := rfl
@[simp] theorem setIsr_lc (v : BitVec 16) (s : State) : (setIsr v s).lc = s.lc := rfl
@[simp] theorem setIsr_dispatchConstant (v : BitVec 16) (s : State) :
    (setIsr v s).dispatchConstant = s.dispatchConstant := rfl
@[simp] theorem setIsr_opc (v : BitVec 16) (s : State) : (setIsr v s).opc = s.opc := rfl
@[simp] theorem setIsr_pdlPtr (v : BitVec 16) (s : State) : (setIsr v s).pdlPtr = s.pdlPtr := rfl
@[simp] theorem setIsr_pdlIndex (v : BitVec 16) (s : State) : (setIsr v s).pdlIndex = s.pdlIndex := rfl
@[simp] theorem setIsr_spcPtr (v : BitVec 16) (s : State) : (setIsr v s).spcPtr = s.spcPtr := rfl
@[simp] theorem setIsr_accessFault (v : BitVec 16) (s : State) : (setIsr v s).accessFault = s.accessFault := rfl
@[simp] theorem setIsr_writeFault (v : BitVec 16) (s : State) : (setIsr v s).writeFault = s.writeFault := rfl
@[simp] theorem setIsr_pageFault (v : BitVec 16) (s : State) : (setIsr v s).pageFault = s.pageFault := rfl
@[simp] theorem setIsr_isr (v : BitVec 16) (s : State) : (setIsr v s).isr = v := rfl
@[simp] theorem setIsr_interruptPending (v : BitVec 16) (s : State) :
    (setIsr v s).interruptPending = isrPending v := rfl
@[simp] theorem setIsr_cache (v : BitVec 16) (s : State) : (setIsr v s).cache = s.cache := rfl
@[simp] theorem setIsr_aMem (v : BitVec 16) (s : State) : (setIsr v s).aMem = s.aMem := rfl
@[simp] theorem setIsr_mMem (v : BitVec 16) (s : State) : (setIsr v s).mMem = s.mMem := rfl
@[simp] theorem setIsr_pdl (v : BitVec 16) (s : State) : (setIsr v s).pdl = s.pdl := rfl
@[simp] theorem setIsr_spc (v : BitVec 16) (s : State) : (setIsr v s).spc = s.spc := rfl
@[simp] theorem setIsr_dmem (v : BitVec 16) (s : State) : (setIsr v s).dmem = s.dmem := rfl
@[simp] theorem setIsr_ucode (v : BitVec 16) (s : State) : (setIsr v s).ucode = s.ucode := rfl
@[simp] theorem setIsr_prom (v : BitVec 16) (s : State) : (setIsr v s).prom = s.prom := rfl
@[simp] theorem setIsr_l1 (v : BitVec 16) (s : State) : (setIsr v s).l1 = s.l1 := rfl
@[simp] theorem setIsr_l2 (v : BitVec 16) (s : State) : (setIsr v s).l2 = s.l2 := rfl
@[simp] theorem setIsr_pages (v : BitVec 16) (s : State) : (setIsr v s).pages = s.pages := rfl
@[simp] theorem setIsr_mem (v : BitVec 16) (s : State) : (setIsr v s).mem = s.mem := rfl
@[simp] theorem setIsr_ramLast (v : BitVec 16) (s : State) : (setIsr v s).ramLast = s.ramLast := rfl
@[simp] theorem setIsr_pcHistory (v : BitVec 16) (s : State) : (setIsr v s).pcHistory = s.pcHistory := rfl
@[simp] theorem setIsr_macroHistory (v : BitVec 16) (s : State) : (setIsr v s).macroHistory = s.macroHistory := rfl
@[simp] theorem setIsr_pcHistoryDepth (v : BitVec 16) (s : State) :
    (setIsr v s).pcHistoryDepth = s.pcHistoryDepth := rfl
@[simp] theorem setIsr_pollFast (v : BitVec 16) (s : State) : (setIsr v s).pollFast = s.pollFast := rfl
@[simp] theorem setIsr_pollSlow (v : BitVec 16) (s : State) : (setIsr v s).pollSlow = s.pollSlow := rfl
@[simp] theorem setIsr_devAnswers (v : BitVec 16) (s : State) : (setIsr v s).devAnswers = s.devAnswers := rfl
@[simp] theorem setIsr_devLog (v : BitVec 16) (s : State) : (setIsr v s).devLog = s.devLog := rfl
@[simp] theorem setIsr_freeCount (v : BitVec 16) (s : State) : (setIsr v s).freeCount = s.freeCount := rfl

/-! ### setPhysWord -/

@[simp] theorem setPhysWord_uPc (p : Ppn) (o : BitVec 8) (v : Word) (s : State) :
    (setPhysWord p o v s).uPc = s.uPc := rfl
@[simp] theorem setPhysWord_p0 (p : Ppn) (o : BitVec 8) (v : Word) (s : State) :
    (setPhysWord p o v s).p0 = s.p0 := rfl
@[simp] theorem setPhysWord_p1 (p : Ppn) (o : BitVec 8) (v : Word) (s : State) :
    (setPhysWord p o v s).p1 = s.p1 := rfl
@[simp] theorem setPhysWord_p0Pc (p : Ppn) (o : BitVec 8) (v : Word) (s : State) :
    (setPhysWord p o v s).p0Pc = s.p0Pc := rfl
@[simp] theorem setPhysWord_p1Pc (p : Ppn) (o : BitVec 8) (v : Word) (s : State) :
    (setPhysWord p o v s).p1Pc = s.p1Pc := rfl
@[simp] theorem setPhysWord_noExecNext (p : Ppn) (o : BitVec 8) (v : Word) (s : State) :
    (setPhysWord p o v s).noExecNext = s.noExecNext := rfl
@[simp] theorem setPhysWord_oaLo (p : Ppn) (o : BitVec 8) (v : Word) (s : State) :
    (setPhysWord p o v s).oaLo = s.oaLo := rfl
@[simp] theorem setPhysWord_oaLoSet (p : Ppn) (o : BitVec 8) (v : Word) (s : State) :
    (setPhysWord p o v s).oaLoSet = s.oaLoSet := rfl
@[simp] theorem setPhysWord_oaHi (p : Ppn) (o : BitVec 8) (v : Word) (s : State) :
    (setPhysWord p o v s).oaHi = s.oaHi := rfl
@[simp] theorem setPhysWord_oaHiSet (p : Ppn) (o : BitVec 8) (v : Word) (s : State) :
    (setPhysWord p o v s).oaHiSet = s.oaHiSet := rfl
@[simp] theorem setPhysWord_run (p : Ppn) (o : BitVec 8) (v : Word) (s : State) :
    (setPhysWord p o v s).run = s.run := rfl
@[simp] theorem setPhysWord_promEnabled (p : Ppn) (o : BitVec 8) (v : Word) (s : State) :
    (setPhysWord p o v s).promEnabled = s.promEnabled := rfl
@[simp] theorem setPhysWord_cycles (p : Ppn) (o : BitVec 8) (v : Word) (s : State) :
    (setPhysWord p o v s).cycles = s.cycles := rfl
@[simp] theorem setPhysWord_q (p : Ppn) (o : BitVec 8) (v : Word) (s : State) : (setPhysWord p o v s).q = s.q := rfl
@[simp] theorem setPhysWord_vma (p : Ppn) (o : BitVec 8) (v : Word) (s : State) :
    (setPhysWord p o v s).vma = s.vma := rfl
@[simp] theorem setPhysWord_md (p : Ppn) (o : BitVec 8) (v : Word) (s : State) :
    (setPhysWord p o v s).md = s.md := rfl
@[simp] theorem setPhysWord_newMd (p : Ppn) (o : BitVec 8) (v : Word) (s : State) :
    (setPhysWord p o v s).newMd = s.newMd := rfl
@[simp] theorem setPhysWord_newMdDelay (p : Ppn) (o : BitVec 8) (v : Word) (s : State) :
    (setPhysWord p o v s).newMdDelay = s.newMdDelay := rfl
@[simp] theorem setPhysWord_lc (p : Ppn) (o : BitVec 8) (v : Word) (s : State) :
    (setPhysWord p o v s).lc = s.lc := rfl
@[simp] theorem setPhysWord_dispatchConstant (p : Ppn) (o : BitVec 8) (v : Word) (s : State) :
    (setPhysWord p o v s).dispatchConstant = s.dispatchConstant := rfl
@[simp] theorem setPhysWord_opc (p : Ppn) (o : BitVec 8) (v : Word) (s : State) :
    (setPhysWord p o v s).opc = s.opc := rfl
@[simp] theorem setPhysWord_pdlPtr (p : Ppn) (o : BitVec 8) (v : Word) (s : State) :
    (setPhysWord p o v s).pdlPtr = s.pdlPtr := rfl
@[simp] theorem setPhysWord_pdlIndex (p : Ppn) (o : BitVec 8) (v : Word) (s : State) :
    (setPhysWord p o v s).pdlIndex = s.pdlIndex := rfl
@[simp] theorem setPhysWord_spcPtr (p : Ppn) (o : BitVec 8) (v : Word) (s : State) :
    (setPhysWord p o v s).spcPtr = s.spcPtr := rfl
@[simp] theorem setPhysWord_accessFault (p : Ppn) (o : BitVec 8) (v : Word) (s : State) :
    (setPhysWord p o v s).accessFault = s.accessFault := rfl
@[simp] theorem setPhysWord_writeFault (p : Ppn) (o : BitVec 8) (v : Word) (s : State) :
    (setPhysWord p o v s).writeFault = s.writeFault := rfl
@[simp] theorem setPhysWord_pageFault (p : Ppn) (o : BitVec 8) (v : Word) (s : State) :
    (setPhysWord p o v s).pageFault = s.pageFault := rfl
@[simp] theorem setPhysWord_isr (p : Ppn) (o : BitVec 8) (v : Word) (s : State) :
    (setPhysWord p o v s).isr = s.isr := rfl
@[simp] theorem setPhysWord_interruptPending (p : Ppn) (o : BitVec 8) (v : Word) (s : State) :
    (setPhysWord p o v s).interruptPending = s.interruptPending := rfl
@[simp] theorem setPhysWord_cache (p : Ppn) (o : BitVec 8) (v : Word) (s : State) :
    (setPhysWord p o v s).cache = s.cache := rfl
@[simp] theorem setPhysWord_aMem (p : Ppn) (o : BitVec 8) (v : Word) (s : State) :
    (setPhysWord p o v s).aMem = s.aMem := rfl
@[simp] theorem setPhysWord_mMem (p : Ppn) (o : BitVec 8) (v : Word) (s : State) :
    (setPhysWord p o v s).mMem = s.mMem := rfl
@[simp] theorem setPhysWord_pdl (p : Ppn) (o : BitVec 8) (v : Word) (s : State) :
    (setPhysWord p o v s).pdl = s.pdl := rfl
@[simp] theorem setPhysWord_spc (p : Ppn) (o : BitVec 8) (v : Word) (s : State) :
    (setPhysWord p o v s).spc = s.spc := rfl
@[simp] theorem setPhysWord_dmem (p : Ppn) (o : BitVec 8) (v : Word) (s : State) :
    (setPhysWord p o v s).dmem = s.dmem := rfl
@[simp] theorem setPhysWord_ucode (p : Ppn) (o : BitVec 8) (v : Word) (s : State) :
    (setPhysWord p o v s).ucode = s.ucode := rfl
@[simp] theorem setPhysWord_prom (p : Ppn) (o : BitVec 8) (v : Word) (s : State) :
    (setPhysWord p o v s).prom = s.prom := rfl
@[simp] theorem setPhysWord_l1 (p : Ppn) (o : BitVec 8) (v : Word) (s : State) :
    (setPhysWord p o v s).l1 = s.l1 := rfl
@[simp] theorem setPhysWord_l2 (p : Ppn) (o : BitVec 8) (v : Word) (s : State) :
    (setPhysWord p o v s).l2 = s.l2 := rfl
@[simp] theorem setPhysWord_pages (p : Ppn) (o : BitVec 8) (v : Word) (s : State) :
    (setPhysWord p o v s).pages = s.pages := rfl
@[simp] theorem setPhysWord_mem (p : Ppn) (o : BitVec 8) (v : Word) (s : State) :
    (setPhysWord p o v s).mem = writeWord s.mem (cellKey p o) v := rfl
@[simp] theorem setPhysWord_ramLast (p : Ppn) (o : BitVec 8) (v : Word) (s : State) :
    (setPhysWord p o v s).ramLast = s.ramLast := rfl
@[simp] theorem setPhysWord_pcHistory (p : Ppn) (o : BitVec 8) (v : Word) (s : State) :
    (setPhysWord p o v s).pcHistory = s.pcHistory := rfl
@[simp] theorem setPhysWord_macroHistory (p : Ppn) (o : BitVec 8) (v : Word) (s : State) :
    (setPhysWord p o v s).macroHistory = s.macroHistory := rfl
@[simp] theorem setPhysWord_pcHistoryDepth (p : Ppn) (o : BitVec 8) (v : Word) (s : State) :
    (setPhysWord p o v s).pcHistoryDepth = s.pcHistoryDepth := rfl
@[simp] theorem setPhysWord_pollFast (p : Ppn) (o : BitVec 8) (v : Word) (s : State) :
    (setPhysWord p o v s).pollFast = s.pollFast := rfl
@[simp] theorem setPhysWord_pollSlow (p : Ppn) (o : BitVec 8) (v : Word) (s : State) :
    (setPhysWord p o v s).pollSlow = s.pollSlow := rfl
@[simp] theorem setPhysWord_devAnswers (p : Ppn) (o : BitVec 8) (v : Word) (s : State) :
    (setPhysWord p o v s).devAnswers = s.devAnswers := rfl
@[simp] theorem setPhysWord_devLog (p : Ppn) (o : BitVec 8) (v : Word) (s : State) :
    (setPhysWord p o v s).devLog = s.devLog := rfl
@[simp] theorem setPhysWord_freeCount (p : Ppn) (o : BitVec 8) (v : Word) (s : State) :
    (setPhysWord p o v s).freeCount = s.freeCount := rfl

/-! ### logAccess -/

@[simp] theorem logAccess_uPc (a : DevAccess) (s : State) : (logAccess a s).uPc = s.uPc := rfl
@[simp] theorem logAccess_p0 (a : DevAccess) (s : State) : (logAccess a s).p0 = s.p0 := rfl
@[simp] theorem logAccess_p1 (a : DevAccess) (s : State) : (logAccess a s).p1 = s.p1 := rfl
@[simp] theorem logAccess_p0Pc (a : DevAccess) (s : State) : (logAccess a s).p0Pc = s.p0Pc := rfl
@[simp] theorem logAccess_p1Pc (a : DevAccess) (s : State) : (logAccess a s).p1Pc = s.p1Pc := rfl
@[simp] theorem logAccess_noExecNext (a : DevAccess) (s : State) : (logAccess a s).noExecNext = s.noExecNext := rfl
@[simp] theorem logAccess_oaLo (a : DevAccess) (s : State) : (logAccess a s).oaLo = s.oaLo := rfl
@[simp] theorem logAccess_oaLoSet (a : DevAccess) (s : State) : (logAccess a s).oaLoSet = s.oaLoSet := rfl
@[simp] theorem logAccess_oaHi (a : DevAccess) (s : State) : (logAccess a s).oaHi = s.oaHi := rfl
@[simp] theorem logAccess_oaHiSet (a : DevAccess) (s : State) : (logAccess a s).oaHiSet = s.oaHiSet := rfl
@[simp] theorem logAccess_run (a : DevAccess) (s : State) : (logAccess a s).run = s.run := rfl
@[simp] theorem logAccess_promEnabled (a : DevAccess) (s : State) : (logAccess a s).promEnabled = s.promEnabled := rfl
@[simp] theorem logAccess_cycles (a : DevAccess) (s : State) : (logAccess a s).cycles = s.cycles := rfl
@[simp] theorem logAccess_q (a : DevAccess) (s : State) : (logAccess a s).q = s.q := rfl
@[simp] theorem logAccess_vma (a : DevAccess) (s : State) : (logAccess a s).vma = s.vma := rfl
@[simp] theorem logAccess_md (a : DevAccess) (s : State) : (logAccess a s).md = s.md := rfl
@[simp] theorem logAccess_newMd (a : DevAccess) (s : State) : (logAccess a s).newMd = s.newMd := rfl
@[simp] theorem logAccess_newMdDelay (a : DevAccess) (s : State) : (logAccess a s).newMdDelay = s.newMdDelay := rfl
@[simp] theorem logAccess_lc (a : DevAccess) (s : State) : (logAccess a s).lc = s.lc := rfl
@[simp] theorem logAccess_dispatchConstant (a : DevAccess) (s : State) :
    (logAccess a s).dispatchConstant = s.dispatchConstant := rfl
@[simp] theorem logAccess_opc (a : DevAccess) (s : State) : (logAccess a s).opc = s.opc := rfl
@[simp] theorem logAccess_pdlPtr (a : DevAccess) (s : State) : (logAccess a s).pdlPtr = s.pdlPtr := rfl
@[simp] theorem logAccess_pdlIndex (a : DevAccess) (s : State) : (logAccess a s).pdlIndex = s.pdlIndex := rfl
@[simp] theorem logAccess_spcPtr (a : DevAccess) (s : State) : (logAccess a s).spcPtr = s.spcPtr := rfl
@[simp] theorem logAccess_accessFault (a : DevAccess) (s : State) : (logAccess a s).accessFault = s.accessFault := rfl
@[simp] theorem logAccess_writeFault (a : DevAccess) (s : State) : (logAccess a s).writeFault = s.writeFault := rfl
@[simp] theorem logAccess_pageFault (a : DevAccess) (s : State) : (logAccess a s).pageFault = s.pageFault := rfl
@[simp] theorem logAccess_isr (a : DevAccess) (s : State) : (logAccess a s).isr = s.isr := rfl
@[simp] theorem logAccess_interruptPending (a : DevAccess) (s : State) :
    (logAccess a s).interruptPending = s.interruptPending := rfl
@[simp] theorem logAccess_cache (a : DevAccess) (s : State) : (logAccess a s).cache = s.cache := rfl
@[simp] theorem logAccess_aMem (a : DevAccess) (s : State) : (logAccess a s).aMem = s.aMem := rfl
@[simp] theorem logAccess_mMem (a : DevAccess) (s : State) : (logAccess a s).mMem = s.mMem := rfl
@[simp] theorem logAccess_pdl (a : DevAccess) (s : State) : (logAccess a s).pdl = s.pdl := rfl
@[simp] theorem logAccess_spc (a : DevAccess) (s : State) : (logAccess a s).spc = s.spc := rfl
@[simp] theorem logAccess_dmem (a : DevAccess) (s : State) : (logAccess a s).dmem = s.dmem := rfl
@[simp] theorem logAccess_ucode (a : DevAccess) (s : State) : (logAccess a s).ucode = s.ucode := rfl
@[simp] theorem logAccess_prom (a : DevAccess) (s : State) : (logAccess a s).prom = s.prom := rfl
@[simp] theorem logAccess_l1 (a : DevAccess) (s : State) : (logAccess a s).l1 = s.l1 := rfl
@[simp] theorem logAccess_l2 (a : DevAccess) (s : State) : (logAccess a s).l2 = s.l2 := rfl
@[simp] theorem logAccess_pages (a : DevAccess) (s : State) : (logAccess a s).pages = s.pages := rfl
@[simp] theorem logAccess_mem (a : DevAccess) (s : State) : (logAccess a s).mem = s.mem := rfl
@[simp] theorem logAccess_ramLast (a : DevAccess) (s : State) : (logAccess a s).ramLast = s.ramLast := rfl
@[simp] theorem logAccess_pcHistory (a : DevAccess) (s : State) : (logAccess a s).pcHistory = s.pcHistory := rfl
@[simp] theorem logAccess_macroHistory (a : DevAccess) (s : State) :
    (logAccess a s).macroHistory = s.macroHistory := rfl
@[simp] theorem logAccess_pcHistoryDepth (a : DevAccess) (s : State) :
    (logAccess a s).pcHistoryDepth = s.pcHistoryDepth := rfl
@[simp] theorem logAccess_pollFast (a : DevAccess) (s : State) : (logAccess a s).pollFast = s.pollFast := rfl
@[simp] theorem logAccess_pollSlow (a : DevAccess) (s : State) : (logAccess a s).pollSlow = s.pollSlow := rfl
@[simp] theorem logAccess_devAnswers (a : DevAccess) (s : State) : (logAccess a s).devAnswers = s.devAnswers := rfl
@[simp] theorem logAccess_devLog (a : DevAccess) (s : State) : (logAccess a s).devLog = a :: s.devLog := rfl
@[simp] theorem logAccess_freeCount (a : DevAccess) (s : State) : (logAccess a s).freeCount = s.freeCount := rfl

/-! ### invalidateCache -/

@[simp] theorem invalidateCache_uPc (s : State) : (invalidateCache s).uPc = s.uPc := rfl
@[simp] theorem invalidateCache_p0 (s : State) : (invalidateCache s).p0 = s.p0 := rfl
@[simp] theorem invalidateCache_p1 (s : State) : (invalidateCache s).p1 = s.p1 := rfl
@[simp] theorem invalidateCache_p0Pc (s : State) : (invalidateCache s).p0Pc = s.p0Pc := rfl
@[simp] theorem invalidateCache_p1Pc (s : State) : (invalidateCache s).p1Pc = s.p1Pc := rfl
@[simp] theorem invalidateCache_noExecNext (s : State) : (invalidateCache s).noExecNext = s.noExecNext := rfl
@[simp] theorem invalidateCache_oaLo (s : State) : (invalidateCache s).oaLo = s.oaLo := rfl
@[simp] theorem invalidateCache_oaLoSet (s : State) : (invalidateCache s).oaLoSet = s.oaLoSet := rfl
@[simp] theorem invalidateCache_oaHi (s : State) : (invalidateCache s).oaHi = s.oaHi := rfl
@[simp] theorem invalidateCache_oaHiSet (s : State) : (invalidateCache s).oaHiSet = s.oaHiSet := rfl
@[simp] theorem invalidateCache_run (s : State) : (invalidateCache s).run = s.run := rfl
@[simp] theorem invalidateCache_promEnabled (s : State) : (invalidateCache s).promEnabled = s.promEnabled := rfl
@[simp] theorem invalidateCache_cycles (s : State) : (invalidateCache s).cycles = s.cycles := rfl
@[simp] theorem invalidateCache_q (s : State) : (invalidateCache s).q = s.q := rfl
@[simp] theorem invalidateCache_vma (s : State) : (invalidateCache s).vma = s.vma := rfl
@[simp] theorem invalidateCache_md (s : State) : (invalidateCache s).md = s.md := rfl
@[simp] theorem invalidateCache_newMd (s : State) : (invalidateCache s).newMd = s.newMd := rfl
@[simp] theorem invalidateCache_newMdDelay (s : State) : (invalidateCache s).newMdDelay = s.newMdDelay := rfl
@[simp] theorem invalidateCache_lc (s : State) : (invalidateCache s).lc = s.lc := rfl
@[simp] theorem invalidateCache_dispatchConstant (s : State) :
    (invalidateCache s).dispatchConstant = s.dispatchConstant := rfl
@[simp] theorem invalidateCache_opc (s : State) : (invalidateCache s).opc = s.opc := rfl
@[simp] theorem invalidateCache_pdlPtr (s : State) : (invalidateCache s).pdlPtr = s.pdlPtr := rfl
@[simp] theorem invalidateCache_pdlIndex (s : State) : (invalidateCache s).pdlIndex = s.pdlIndex := rfl
@[simp] theorem invalidateCache_spcPtr (s : State) : (invalidateCache s).spcPtr = s.spcPtr := rfl
@[simp] theorem invalidateCache_accessFault (s : State) : (invalidateCache s).accessFault = s.accessFault := rfl
@[simp] theorem invalidateCache_writeFault (s : State) : (invalidateCache s).writeFault = s.writeFault := rfl
@[simp] theorem invalidateCache_pageFault (s : State) : (invalidateCache s).pageFault = s.pageFault := rfl
@[simp] theorem invalidateCache_isr (s : State) : (invalidateCache s).isr = s.isr := rfl
@[simp] theorem invalidateCache_interruptPending (s : State) :
    (invalidateCache s).interruptPending = s.interruptPending := rfl
@[simp] theorem invalidateCache_cache (s : State) : (invalidateCache s).cache = { s.cache with valid := false } := rfl
@[simp] theorem invalidateCache_aMem (s : State) : (invalidateCache s).aMem = s.aMem := rfl
@[simp] theorem invalidateCache_mMem (s : State) : (invalidateCache s).mMem = s.mMem := rfl
@[simp] theorem invalidateCache_pdl (s : State) : (invalidateCache s).pdl = s.pdl := rfl
@[simp] theorem invalidateCache_spc (s : State) : (invalidateCache s).spc = s.spc := rfl
@[simp] theorem invalidateCache_dmem (s : State) : (invalidateCache s).dmem = s.dmem := rfl
@[simp] theorem invalidateCache_ucode (s : State) : (invalidateCache s).ucode = s.ucode := rfl
@[simp] theorem invalidateCache_prom (s : State) : (invalidateCache s).prom = s.prom := rfl
@[simp] theorem invalidateCache_l1 (s : State) : (invalidateCache s).l1 = s.l1 := rfl
@[simp] theorem invalidateCache_l2 (s : State) : (invalidateCache s).l2 = s.l2 := rfl
@[simp] theorem invalidateCache_pages (s : State) : (invalidateCache s).pages = s.pages := rfl
@[simp] theorem invalidateCache_mem (s : State) : (invalidateCache s).mem = s.mem := rfl
@[simp] theorem invalidateCache_ramLast (s : State) : (invalidateCache s).ramLast = s.ramLast := rfl
@[simp] theorem invalidateCache_pcHistory (s : State) : (invalidateCache s).pcHistory = s.pcHistory := rfl
@[simp] theorem invalidateCache_macroHistory (s : State) : (invalidateCache s).macroHistory = s.macroHistory := rfl
@[simp] theorem invalidateCache_pcHistoryDepth (s : State) :
    (invalidateCache s).pcHistoryDepth = s.pcHistoryDepth := rfl
@[simp] theorem invalidateCache_pollFast (s : State) : (invalidateCache s).pollFast = s.pollFast := rfl
@[simp] theorem invalidateCache_pollSlow (s : State) : (invalidateCache s).pollSlow = s.pollSlow := rfl
@[simp] theorem invalidateCache_devAnswers (s : State) : (invalidateCache s).devAnswers = s.devAnswers := rfl
@[simp] theorem invalidateCache_devLog (s : State) : (invalidateCache s).devLog = s.devLog := rfl
@[simp] theorem invalidateCache_freeCount (s : State) : (invalidateCache s).freeCount = s.freeCount := rfl

/-! ### clearFaults -/

@[simp] theorem clearFaults_uPc (s : State) : (clearFaults s).uPc = s.uPc := rfl
@[simp] theorem clearFaults_p0 (s : State) : (clearFaults s).p0 = s.p0 := rfl
@[simp] theorem clearFaults_p1 (s : State) : (clearFaults s).p1 = s.p1 := rfl
@[simp] theorem clearFaults_p0Pc (s : State) : (clearFaults s).p0Pc = s.p0Pc := rfl
@[simp] theorem clearFaults_p1Pc (s : State) : (clearFaults s).p1Pc = s.p1Pc := rfl
@[simp] theorem clearFaults_noExecNext (s : State) : (clearFaults s).noExecNext = s.noExecNext := rfl
@[simp] theorem clearFaults_oaLo (s : State) : (clearFaults s).oaLo = s.oaLo := rfl
@[simp] theorem clearFaults_oaLoSet (s : State) : (clearFaults s).oaLoSet = s.oaLoSet := rfl
@[simp] theorem clearFaults_oaHi (s : State) : (clearFaults s).oaHi = s.oaHi := rfl
@[simp] theorem clearFaults_oaHiSet (s : State) : (clearFaults s).oaHiSet = s.oaHiSet := rfl
@[simp] theorem clearFaults_run (s : State) : (clearFaults s).run = s.run := rfl
@[simp] theorem clearFaults_promEnabled (s : State) : (clearFaults s).promEnabled = s.promEnabled := rfl
@[simp] theorem clearFaults_cycles (s : State) : (clearFaults s).cycles = s.cycles := rfl
@[simp] theorem clearFaults_q (s : State) : (clearFaults s).q = s.q := rfl
@[simp] theorem clearFaults_vma (s : State) : (clearFaults s).vma = s.vma := rfl
@[simp] theorem clearFaults_md (s : State) : (clearFaults s).md = s.md := rfl
@[simp] theorem clearFaults_newMd (s : State) : (clearFaults s).newMd = s.newMd := rfl
@[simp] theorem clearFaults_newMdDelay (s : State) : (clearFaults s).newMdDelay = s.newMdDelay := rfl
@[simp] theorem clearFaults_lc (s : State) : (clearFaults s).lc = s.lc := rfl
@[simp] theorem clearFaults_dispatchConstant (s : State) :
    (clearFaults s).dispatchConstant = s.dispatchConstant := rfl
@[simp] theorem clearFaults_opc (s : State) : (clearFaults s).opc = s.opc := rfl
@[simp] theorem clearFaults_pdlPtr (s : State) : (clearFaults s).pdlPtr = s.pdlPtr := rfl
@[simp] theorem clearFaults_pdlIndex (s : State) : (clearFaults s).pdlIndex = s.pdlIndex := rfl
@[simp] theorem clearFaults_spcPtr (s : State) : (clearFaults s).spcPtr = s.spcPtr := rfl
@[simp] theorem clearFaults_accessFault (s : State) : (clearFaults s).accessFault = false := rfl
@[simp] theorem clearFaults_writeFault (s : State) : (clearFaults s).writeFault = false := rfl
@[simp] theorem clearFaults_pageFault (s : State) : (clearFaults s).pageFault = false := rfl
@[simp] theorem clearFaults_isr (s : State) : (clearFaults s).isr = s.isr := rfl
@[simp] theorem clearFaults_interruptPending (s : State) :
    (clearFaults s).interruptPending = s.interruptPending := rfl
@[simp] theorem clearFaults_cache (s : State) : (clearFaults s).cache = s.cache := rfl
@[simp] theorem clearFaults_aMem (s : State) : (clearFaults s).aMem = s.aMem := rfl
@[simp] theorem clearFaults_mMem (s : State) : (clearFaults s).mMem = s.mMem := rfl
@[simp] theorem clearFaults_pdl (s : State) : (clearFaults s).pdl = s.pdl := rfl
@[simp] theorem clearFaults_spc (s : State) : (clearFaults s).spc = s.spc := rfl
@[simp] theorem clearFaults_dmem (s : State) : (clearFaults s).dmem = s.dmem := rfl
@[simp] theorem clearFaults_ucode (s : State) : (clearFaults s).ucode = s.ucode := rfl
@[simp] theorem clearFaults_prom (s : State) : (clearFaults s).prom = s.prom := rfl
@[simp] theorem clearFaults_l1 (s : State) : (clearFaults s).l1 = s.l1 := rfl
@[simp] theorem clearFaults_l2 (s : State) : (clearFaults s).l2 = s.l2 := rfl
@[simp] theorem clearFaults_pages (s : State) : (clearFaults s).pages = s.pages := rfl
@[simp] theorem clearFaults_mem (s : State) : (clearFaults s).mem = s.mem := rfl
@[simp] theorem clearFaults_ramLast (s : State) : (clearFaults s).ramLast = s.ramLast := rfl
@[simp] theorem clearFaults_pcHistory (s : State) : (clearFaults s).pcHistory = s.pcHistory := rfl
@[simp] theorem clearFaults_macroHistory (s : State) : (clearFaults s).macroHistory = s.macroHistory := rfl
@[simp] theorem clearFaults_pcHistoryDepth (s : State) : (clearFaults s).pcHistoryDepth = s.pcHistoryDepth := rfl
@[simp] theorem clearFaults_pollFast (s : State) : (clearFaults s).pollFast = s.pollFast := rfl
@[simp] theorem clearFaults_pollSlow (s : State) : (clearFaults s).pollSlow = s.pollSlow := rfl
@[simp] theorem clearFaults_devAnswers (s : State) : (clearFaults s).devAnswers = s.devAnswers := rfl
@[simp] theorem clearFaults_devLog (s : State) : (clearFaults s).devLog = s.devLog := rfl
@[simp] theorem clearFaults_freeCount (s : State) : (clearFaults s).freeCount = s.freeCount := rfl

/-! ### writeUcode -/

@[simp] theorem writeUcode_uPc (pc : MicroPc) (w : Microword) (s : State) : (writeUcode pc w s).uPc = s.uPc := rfl
@[simp] theorem writeUcode_p0 (pc : MicroPc) (w : Microword) (s : State) : (writeUcode pc w s).p0 = s.p0 := rfl
@[simp] theorem writeUcode_p1 (pc : MicroPc) (w : Microword) (s : State) : (writeUcode pc w s).p1 = s.p1 := rfl
@[simp] theorem writeUcode_p0Pc (pc : MicroPc) (w : Microword) (s : State) : (writeUcode pc w s).p0Pc = s.p0Pc := rfl
@[simp] theorem writeUcode_p1Pc (pc : MicroPc) (w : Microword) (s : State) : (writeUcode pc w s).p1Pc = s.p1Pc := rfl
@[simp] theorem writeUcode_noExecNext (pc : MicroPc) (w : Microword) (s : State) :
    (writeUcode pc w s).noExecNext = s.noExecNext := rfl
@[simp] theorem writeUcode_oaLo (pc : MicroPc) (w : Microword) (s : State) : (writeUcode pc w s).oaLo = s.oaLo := rfl
@[simp] theorem writeUcode_oaLoSet (pc : MicroPc) (w : Microword) (s : State) :
    (writeUcode pc w s).oaLoSet = s.oaLoSet := rfl
@[simp] theorem writeUcode_oaHi (pc : MicroPc) (w : Microword) (s : State) : (writeUcode pc w s).oaHi = s.oaHi := rfl
@[simp] theorem writeUcode_oaHiSet (pc : MicroPc) (w : Microword) (s : State) :
    (writeUcode pc w s).oaHiSet = s.oaHiSet := rfl
@[simp] theorem writeUcode_run (pc : MicroPc) (w : Microword) (s : State) : (writeUcode pc w s).run = s.run := rfl
@[simp] theorem writeUcode_promEnabled (pc : MicroPc) (w : Microword) (s : State) :
    (writeUcode pc w s).promEnabled = s.promEnabled := rfl
@[simp] theorem writeUcode_cycles (pc : MicroPc) (w : Microword) (s : State) :
    (writeUcode pc w s).cycles = s.cycles := rfl
@[simp] theorem writeUcode_q (pc : MicroPc) (w : Microword) (s : State) : (writeUcode pc w s).q = s.q := rfl
@[simp] theorem writeUcode_vma (pc : MicroPc) (w : Microword) (s : State) : (writeUcode pc w s).vma = s.vma := rfl
@[simp] theorem writeUcode_md (pc : MicroPc) (w : Microword) (s : State) : (writeUcode pc w s).md = s.md := rfl
@[simp] theorem writeUcode_newMd (pc : MicroPc) (w : Microword) (s : State) :
    (writeUcode pc w s).newMd = s.newMd := rfl
@[simp] theorem writeUcode_newMdDelay (pc : MicroPc) (w : Microword) (s : State) :
    (writeUcode pc w s).newMdDelay = s.newMdDelay := rfl
@[simp] theorem writeUcode_lc (pc : MicroPc) (w : Microword) (s : State) : (writeUcode pc w s).lc = s.lc := rfl
@[simp] theorem writeUcode_dispatchConstant (pc : MicroPc) (w : Microword) (s : State) :
    (writeUcode pc w s).dispatchConstant = s.dispatchConstant := rfl
@[simp] theorem writeUcode_opc (pc : MicroPc) (w : Microword) (s : State) : (writeUcode pc w s).opc = s.opc := rfl
@[simp] theorem writeUcode_pdlPtr (pc : MicroPc) (w : Microword) (s : State) :
    (writeUcode pc w s).pdlPtr = s.pdlPtr := rfl
@[simp] theorem writeUcode_pdlIndex (pc : MicroPc) (w : Microword) (s : State) :
    (writeUcode pc w s).pdlIndex = s.pdlIndex := rfl
@[simp] theorem writeUcode_spcPtr (pc : MicroPc) (w : Microword) (s : State) :
    (writeUcode pc w s).spcPtr = s.spcPtr := rfl
@[simp] theorem writeUcode_accessFault (pc : MicroPc) (w : Microword) (s : State) :
    (writeUcode pc w s).accessFault = s.accessFault := rfl
@[simp] theorem writeUcode_writeFault (pc : MicroPc) (w : Microword) (s : State) :
    (writeUcode pc w s).writeFault = s.writeFault := rfl
@[simp] theorem writeUcode_pageFault (pc : MicroPc) (w : Microword) (s : State) :
    (writeUcode pc w s).pageFault = s.pageFault := rfl
@[simp] theorem writeUcode_isr (pc : MicroPc) (w : Microword) (s : State) : (writeUcode pc w s).isr = s.isr := rfl
@[simp] theorem writeUcode_interruptPending (pc : MicroPc) (w : Microword) (s : State) :
    (writeUcode pc w s).interruptPending = s.interruptPending := rfl
@[simp] theorem writeUcode_cache (pc : MicroPc) (w : Microword) (s : State) :
    (writeUcode pc w s).cache = s.cache := rfl
@[simp] theorem writeUcode_aMem (pc : MicroPc) (w : Microword) (s : State) : (writeUcode pc w s).aMem = s.aMem := rfl
@[simp] theorem writeUcode_mMem (pc : MicroPc) (w : Microword) (s : State) : (writeUcode pc w s).mMem = s.mMem := rfl
@[simp] theorem writeUcode_pdl (pc : MicroPc) (w : Microword) (s : State) : (writeUcode pc w s).pdl = s.pdl := rfl
@[simp] theorem writeUcode_spc (pc : MicroPc) (w : Microword) (s : State) : (writeUcode pc w s).spc = s.spc := rfl
@[simp] theorem writeUcode_dmem (pc : MicroPc) (w : Microword) (s : State) : (writeUcode pc w s).dmem = s.dmem := rfl
@[simp] theorem writeUcode_ucode (pc : MicroPc) (w : Microword) (s : State) :
    (writeUcode pc w s).ucode = s.ucode.set pc.toNat w := rfl
@[simp] theorem writeUcode_prom (pc : MicroPc) (w : Microword) (s : State) : (writeUcode pc w s).prom = s.prom := rfl
@[simp] theorem writeUcode_l1 (pc : MicroPc) (w : Microword) (s : State) : (writeUcode pc w s).l1 = s.l1 := rfl
@[simp] theorem writeUcode_l2 (pc : MicroPc) (w : Microword) (s : State) : (writeUcode pc w s).l2 = s.l2 := rfl
@[simp] theorem writeUcode_pages (pc : MicroPc) (w : Microword) (s : State) :
    (writeUcode pc w s).pages = s.pages := rfl
@[simp] theorem writeUcode_mem (pc : MicroPc) (w : Microword) (s : State) : (writeUcode pc w s).mem = s.mem := rfl
@[simp] theorem writeUcode_ramLast (pc : MicroPc) (w : Microword) (s : State) :
    (writeUcode pc w s).ramLast = s.ramLast := rfl
@[simp] theorem writeUcode_pcHistory (pc : MicroPc) (w : Microword) (s : State) :
    (writeUcode pc w s).pcHistory = s.pcHistory := rfl
@[simp] theorem writeUcode_macroHistory (pc : MicroPc) (w : Microword) (s : State) :
    (writeUcode pc w s).macroHistory = s.macroHistory := rfl
@[simp] theorem writeUcode_pcHistoryDepth (pc : MicroPc) (w : Microword) (s : State) :
    (writeUcode pc w s).pcHistoryDepth = s.pcHistoryDepth := rfl
@[simp] theorem writeUcode_pollFast (pc : MicroPc) (w : Microword) (s : State) :
    (writeUcode pc w s).pollFast = s.pollFast := rfl
@[simp] theorem writeUcode_pollSlow (pc : MicroPc) (w : Microword) (s : State) :
    (writeUcode pc w s).pollSlow = s.pollSlow := rfl
@[simp] theorem writeUcode_devAnswers (pc : MicroPc) (w : Microword) (s : State) :
    (writeUcode pc w s).devAnswers = s.devAnswers := rfl
@[simp] theorem writeUcode_devLog (pc : MicroPc) (w : Microword) (s : State) :
    (writeUcode pc w s).devLog = s.devLog := rfl
@[simp] theorem writeUcode_freeCount (pc : MicroPc) (w : Microword) (s : State) :
    (writeUcode pc w s).freeCount = s.freeCount := rfl

/-! ### countCycle -/

@[simp] theorem countCycle_uPc (s : State) : (countCycle s).uPc = s.uPc := rfl
@[simp] theorem countCycle_p0 (s : State) : (countCycle s).p0 = s.p0 := rfl
@[simp] theorem countCycle_p1 (s : State) : (countCycle s).p1 = s.p1 := rfl
@[simp] theorem countCycle_p0Pc (s : State) : (countCycle s).p0Pc = s.p0Pc := rfl
@[simp] theorem countCycle_p1Pc (s : State) : (countCycle s).p1Pc = s.p1Pc := rfl
@[simp] theorem countCycle_noExecNext (s : State) : (countCycle s).noExecNext = s.noExecNext := rfl
@[simp] theorem countCycle_oaLo (s : State) : (countCycle s).oaLo = s.oaLo := rfl
@[simp] theorem countCycle_oaLoSet (s : State) : (countCycle s).oaLoSet = s.oaLoSet := rfl
@[simp] theorem countCycle_oaHi (s : State) : (countCycle s).oaHi = s.oaHi := rfl
@[simp] theorem countCycle_oaHiSet (s : State) : (countCycle s).oaHiSet = s.oaHiSet := rfl
@[simp] theorem countCycle_run (s : State) : (countCycle s).run = s.run := rfl
@[simp] theorem countCycle_promEnabled (s : State) : (countCycle s).promEnabled = s.promEnabled := rfl
@[simp] theorem countCycle_cycles (s : State) : (countCycle s).cycles = nextCycle s.cycles := rfl
@[simp] theorem countCycle_q (s : State) : (countCycle s).q = s.q := rfl
@[simp] theorem countCycle_vma (s : State) : (countCycle s).vma = s.vma := rfl
@[simp] theorem countCycle_md (s : State) : (countCycle s).md = s.md := rfl
@[simp] theorem countCycle_newMd (s : State) : (countCycle s).newMd = s.newMd := rfl
@[simp] theorem countCycle_newMdDelay (s : State) : (countCycle s).newMdDelay = s.newMdDelay := rfl
@[simp] theorem countCycle_lc (s : State) : (countCycle s).lc = s.lc := rfl
@[simp] theorem countCycle_dispatchConstant (s : State) : (countCycle s).dispatchConstant = s.dispatchConstant := rfl
@[simp] theorem countCycle_opc (s : State) : (countCycle s).opc = s.opc := rfl
@[simp] theorem countCycle_pdlPtr (s : State) : (countCycle s).pdlPtr = s.pdlPtr := rfl
@[simp] theorem countCycle_pdlIndex (s : State) : (countCycle s).pdlIndex = s.pdlIndex := rfl
@[simp] theorem countCycle_spcPtr (s : State) : (countCycle s).spcPtr = s.spcPtr := rfl
@[simp] theorem countCycle_accessFault (s : State) : (countCycle s).accessFault = s.accessFault := rfl
@[simp] theorem countCycle_writeFault (s : State) : (countCycle s).writeFault = s.writeFault := rfl
@[simp] theorem countCycle_pageFault (s : State) : (countCycle s).pageFault = s.pageFault := rfl
@[simp] theorem countCycle_isr (s : State) : (countCycle s).isr = s.isr := rfl
@[simp] theorem countCycle_interruptPending (s : State) : (countCycle s).interruptPending = s.interruptPending := rfl
@[simp] theorem countCycle_cache (s : State) : (countCycle s).cache = s.cache := rfl
@[simp] theorem countCycle_aMem (s : State) : (countCycle s).aMem = s.aMem := rfl
@[simp] theorem countCycle_mMem (s : State) : (countCycle s).mMem = s.mMem := rfl
@[simp] theorem countCycle_pdl (s : State) : (countCycle s).pdl = s.pdl := rfl
@[simp] theorem countCycle_spc (s : State) : (countCycle s).spc = s.spc := rfl
@[simp] theorem countCycle_dmem (s : State) : (countCycle s).dmem = s.dmem := rfl
@[simp] theorem countCycle_ucode (s : State) : (countCycle s).ucode = s.ucode := rfl
@[simp] theorem countCycle_prom (s : State) : (countCycle s).prom = s.prom := rfl
@[simp] theorem countCycle_l1 (s : State) : (countCycle s).l1 = s.l1 := rfl
@[simp] theorem countCycle_l2 (s : State) : (countCycle s).l2 = s.l2 := rfl
@[simp] theorem countCycle_pages (s : State) : (countCycle s).pages = s.pages := rfl
@[simp] theorem countCycle_mem (s : State) : (countCycle s).mem = s.mem := rfl
@[simp] theorem countCycle_ramLast (s : State) : (countCycle s).ramLast = s.ramLast := rfl
@[simp] theorem countCycle_pcHistory (s : State) : (countCycle s).pcHistory = s.pcHistory := rfl
@[simp] theorem countCycle_macroHistory (s : State) : (countCycle s).macroHistory = s.macroHistory := rfl
@[simp] theorem countCycle_pcHistoryDepth (s : State) : (countCycle s).pcHistoryDepth = s.pcHistoryDepth := rfl
@[simp] theorem countCycle_pollFast (s : State) : (countCycle s).pollFast = s.pollFast := rfl
@[simp] theorem countCycle_pollSlow (s : State) : (countCycle s).pollSlow = s.pollSlow := rfl
@[simp] theorem countCycle_devAnswers (s : State) : (countCycle s).devAnswers = s.devAnswers := rfl
@[simp] theorem countCycle_devLog (s : State) : (countCycle s).devLog = s.devLog := rfl
@[simp] theorem countCycle_freeCount (s : State) : (countCycle s).freeCount = s.freeCount := rfl

/-! ### advancePipe -/

@[simp] theorem advancePipe_uPc (s : State) : (advancePipe s).uPc = s.uPc + 1 := rfl
@[simp] theorem advancePipe_p0 (s : State) : (advancePipe s).p0 = s.p1 := rfl
@[simp] theorem advancePipe_p1 (s : State) : (advancePipe s).p1 = fetch s s.uPc := rfl
@[simp] theorem advancePipe_p0Pc (s : State) : (advancePipe s).p0Pc = s.p1Pc := rfl
@[simp] theorem advancePipe_p1Pc (s : State) : (advancePipe s).p1Pc = s.uPc := rfl
@[simp] theorem advancePipe_noExecNext (s : State) : (advancePipe s).noExecNext = s.noExecNext := rfl
@[simp] theorem advancePipe_oaLo (s : State) : (advancePipe s).oaLo = s.oaLo := rfl
@[simp] theorem advancePipe_oaLoSet (s : State) : (advancePipe s).oaLoSet = s.oaLoSet := rfl
@[simp] theorem advancePipe_oaHi (s : State) : (advancePipe s).oaHi = s.oaHi := rfl
@[simp] theorem advancePipe_oaHiSet (s : State) : (advancePipe s).oaHiSet = s.oaHiSet := rfl
@[simp] theorem advancePipe_run (s : State) : (advancePipe s).run = s.run := rfl
@[simp] theorem advancePipe_promEnabled (s : State) : (advancePipe s).promEnabled = s.promEnabled := rfl
@[simp] theorem advancePipe_cycles (s : State) : (advancePipe s).cycles = s.cycles := rfl
@[simp] theorem advancePipe_q (s : State) : (advancePipe s).q = s.q := rfl
@[simp] theorem advancePipe_vma (s : State) : (advancePipe s).vma = s.vma := rfl
@[simp] theorem advancePipe_md (s : State) : (advancePipe s).md = s.md := rfl
@[simp] theorem advancePipe_newMd (s : State) : (advancePipe s).newMd = s.newMd := rfl
@[simp] theorem advancePipe_newMdDelay (s : State) : (advancePipe s).newMdDelay = s.newMdDelay := rfl
@[simp] theorem advancePipe_lc (s : State) : (advancePipe s).lc = s.lc := rfl
@[simp] theorem advancePipe_dispatchConstant (s : State) :
    (advancePipe s).dispatchConstant = s.dispatchConstant := rfl
@[simp] theorem advancePipe_opc (s : State) : (advancePipe s).opc = s.opc := rfl
@[simp] theorem advancePipe_pdlPtr (s : State) : (advancePipe s).pdlPtr = s.pdlPtr := rfl
@[simp] theorem advancePipe_pdlIndex (s : State) : (advancePipe s).pdlIndex = s.pdlIndex := rfl
@[simp] theorem advancePipe_spcPtr (s : State) : (advancePipe s).spcPtr = s.spcPtr := rfl
@[simp] theorem advancePipe_accessFault (s : State) : (advancePipe s).accessFault = s.accessFault := rfl
@[simp] theorem advancePipe_writeFault (s : State) : (advancePipe s).writeFault = s.writeFault := rfl
@[simp] theorem advancePipe_pageFault (s : State) : (advancePipe s).pageFault = s.pageFault := rfl
@[simp] theorem advancePipe_isr (s : State) : (advancePipe s).isr = s.isr := rfl
@[simp] theorem advancePipe_interruptPending (s : State) :
    (advancePipe s).interruptPending = s.interruptPending := rfl
@[simp] theorem advancePipe_cache (s : State) : (advancePipe s).cache = s.cache := rfl
@[simp] theorem advancePipe_aMem (s : State) : (advancePipe s).aMem = s.aMem := rfl
@[simp] theorem advancePipe_mMem (s : State) : (advancePipe s).mMem = s.mMem := rfl
@[simp] theorem advancePipe_pdl (s : State) : (advancePipe s).pdl = s.pdl := rfl
@[simp] theorem advancePipe_spc (s : State) : (advancePipe s).spc = s.spc := rfl
@[simp] theorem advancePipe_dmem (s : State) : (advancePipe s).dmem = s.dmem := rfl
@[simp] theorem advancePipe_ucode (s : State) : (advancePipe s).ucode = s.ucode := rfl
@[simp] theorem advancePipe_prom (s : State) : (advancePipe s).prom = s.prom := rfl
@[simp] theorem advancePipe_l1 (s : State) : (advancePipe s).l1 = s.l1 := rfl
@[simp] theorem advancePipe_l2 (s : State) : (advancePipe s).l2 = s.l2 := rfl
@[simp] theorem advancePipe_pages (s : State) : (advancePipe s).pages = s.pages := rfl
@[simp] theorem advancePipe_mem (s : State) : (advancePipe s).mem = s.mem := rfl
@[simp] theorem advancePipe_ramLast (s : State) : (advancePipe s).ramLast = s.ramLast := rfl
@[simp] theorem advancePipe_pcHistory (s : State) : (advancePipe s).pcHistory = s.pcHistory := rfl
@[simp] theorem advancePipe_macroHistory (s : State) : (advancePipe s).macroHistory = s.macroHistory := rfl
@[simp] theorem advancePipe_pcHistoryDepth (s : State) : (advancePipe s).pcHistoryDepth = s.pcHistoryDepth := rfl
@[simp] theorem advancePipe_pollFast (s : State) : (advancePipe s).pollFast = s.pollFast := rfl
@[simp] theorem advancePipe_pollSlow (s : State) : (advancePipe s).pollSlow = s.pollSlow := rfl
@[simp] theorem advancePipe_devAnswers (s : State) : (advancePipe s).devAnswers = s.devAnswers := rfl
@[simp] theorem advancePipe_devLog (s : State) : (advancePipe s).devLog = s.devLog := rfl
@[simp] theorem advancePipe_freeCount (s : State) : (advancePipe s).freeCount = s.freeCount := rfl

/-! ### mergeOa -/

@[simp] theorem mergeOa_uPc (s : State) : (mergeOa s).uPc = s.uPc := rfl
@[simp] theorem mergeOa_p0 (s : State) : (mergeOa s).p0 = s.p0 ||| oaBits s := rfl
@[simp] theorem mergeOa_p1 (s : State) : (mergeOa s).p1 = s.p1 := rfl
@[simp] theorem mergeOa_p0Pc (s : State) : (mergeOa s).p0Pc = s.p0Pc := rfl
@[simp] theorem mergeOa_p1Pc (s : State) : (mergeOa s).p1Pc = s.p1Pc := rfl
@[simp] theorem mergeOa_noExecNext (s : State) : (mergeOa s).noExecNext = s.noExecNext := rfl
@[simp] theorem mergeOa_oaLo (s : State) : (mergeOa s).oaLo = s.oaLo := rfl
@[simp] theorem mergeOa_oaLoSet (s : State) : (mergeOa s).oaLoSet = false := rfl
@[simp] theorem mergeOa_oaHi (s : State) : (mergeOa s).oaHi = s.oaHi := rfl
@[simp] theorem mergeOa_oaHiSet (s : State) : (mergeOa s).oaHiSet = false := rfl
@[simp] theorem mergeOa_run (s : State) : (mergeOa s).run = s.run := rfl
@[simp] theorem mergeOa_promEnabled (s : State) : (mergeOa s).promEnabled = s.promEnabled := rfl
@[simp] theorem mergeOa_cycles (s : State) : (mergeOa s).cycles = s.cycles := rfl
@[simp] theorem mergeOa_q (s : State) : (mergeOa s).q = s.q := rfl
@[simp] theorem mergeOa_vma (s : State) : (mergeOa s).vma = s.vma := rfl
@[simp] theorem mergeOa_md (s : State) : (mergeOa s).md = s.md := rfl
@[simp] theorem mergeOa_newMd (s : State) : (mergeOa s).newMd = s.newMd := rfl
@[simp] theorem mergeOa_newMdDelay (s : State) : (mergeOa s).newMdDelay = s.newMdDelay := rfl
@[simp] theorem mergeOa_lc (s : State) : (mergeOa s).lc = s.lc := rfl
@[simp] theorem mergeOa_dispatchConstant (s : State) : (mergeOa s).dispatchConstant = s.dispatchConstant := rfl
@[simp] theorem mergeOa_opc (s : State) : (mergeOa s).opc = s.opc := rfl
@[simp] theorem mergeOa_pdlPtr (s : State) : (mergeOa s).pdlPtr = s.pdlPtr := rfl
@[simp] theorem mergeOa_pdlIndex (s : State) : (mergeOa s).pdlIndex = s.pdlIndex := rfl
@[simp] theorem mergeOa_spcPtr (s : State) : (mergeOa s).spcPtr = s.spcPtr := rfl
@[simp] theorem mergeOa_accessFault (s : State) : (mergeOa s).accessFault = s.accessFault := rfl
@[simp] theorem mergeOa_writeFault (s : State) : (mergeOa s).writeFault = s.writeFault := rfl
@[simp] theorem mergeOa_pageFault (s : State) : (mergeOa s).pageFault = s.pageFault := rfl
@[simp] theorem mergeOa_isr (s : State) : (mergeOa s).isr = s.isr := rfl
@[simp] theorem mergeOa_interruptPending (s : State) : (mergeOa s).interruptPending = s.interruptPending := rfl
@[simp] theorem mergeOa_cache (s : State) : (mergeOa s).cache = s.cache := rfl
@[simp] theorem mergeOa_aMem (s : State) : (mergeOa s).aMem = s.aMem := rfl
@[simp] theorem mergeOa_mMem (s : State) : (mergeOa s).mMem = s.mMem := rfl
@[simp] theorem mergeOa_pdl (s : State) : (mergeOa s).pdl = s.pdl := rfl
@[simp] theorem mergeOa_spc (s : State) : (mergeOa s).spc = s.spc := rfl
@[simp] theorem mergeOa_dmem (s : State) : (mergeOa s).dmem = s.dmem := rfl
@[simp] theorem mergeOa_ucode (s : State) : (mergeOa s).ucode = s.ucode := rfl
@[simp] theorem mergeOa_prom (s : State) : (mergeOa s).prom = s.prom := rfl
@[simp] theorem mergeOa_l1 (s : State) : (mergeOa s).l1 = s.l1 := rfl
@[simp] theorem mergeOa_l2 (s : State) : (mergeOa s).l2 = s.l2 := rfl
@[simp] theorem mergeOa_pages (s : State) : (mergeOa s).pages = s.pages := rfl
@[simp] theorem mergeOa_mem (s : State) : (mergeOa s).mem = s.mem := rfl
@[simp] theorem mergeOa_ramLast (s : State) : (mergeOa s).ramLast = s.ramLast := rfl
@[simp] theorem mergeOa_pcHistory (s : State) : (mergeOa s).pcHistory = s.pcHistory := rfl
@[simp] theorem mergeOa_macroHistory (s : State) : (mergeOa s).macroHistory = s.macroHistory := rfl
@[simp] theorem mergeOa_pcHistoryDepth (s : State) : (mergeOa s).pcHistoryDepth = s.pcHistoryDepth := rfl
@[simp] theorem mergeOa_pollFast (s : State) : (mergeOa s).pollFast = s.pollFast := rfl
@[simp] theorem mergeOa_pollSlow (s : State) : (mergeOa s).pollSlow = s.pollSlow := rfl
@[simp] theorem mergeOa_devAnswers (s : State) : (mergeOa s).devAnswers = s.devAnswers := rfl
@[simp] theorem mergeOa_devLog (s : State) : (mergeOa s).devLog = s.devLog := rfl
@[simp] theorem mergeOa_freeCount (s : State) : (mergeOa s).freeCount = s.freeCount := rfl

/-! ### recordHistory -/

@[simp] theorem recordHistory_uPc (s : State) : (recordHistory s).uPc = s.uPc := rfl
@[simp] theorem recordHistory_p0 (s : State) : (recordHistory s).p0 = s.p0 := rfl
@[simp] theorem recordHistory_p1 (s : State) : (recordHistory s).p1 = s.p1 := rfl
@[simp] theorem recordHistory_p0Pc (s : State) : (recordHistory s).p0Pc = s.p0Pc := rfl
@[simp] theorem recordHistory_p1Pc (s : State) : (recordHistory s).p1Pc = s.p1Pc := rfl
@[simp] theorem recordHistory_noExecNext (s : State) : (recordHistory s).noExecNext = s.noExecNext := rfl
@[simp] theorem recordHistory_oaLo (s : State) : (recordHistory s).oaLo = s.oaLo := rfl
@[simp] theorem recordHistory_oaLoSet (s : State) : (recordHistory s).oaLoSet = s.oaLoSet := rfl
@[simp] theorem recordHistory_oaHi (s : State) : (recordHistory s).oaHi = s.oaHi := rfl
@[simp] theorem recordHistory_oaHiSet (s : State) : (recordHistory s).oaHiSet = s.oaHiSet := rfl
@[simp] theorem recordHistory_run (s : State) : (recordHistory s).run = s.run := rfl
@[simp] theorem recordHistory_promEnabled (s : State) : (recordHistory s).promEnabled = s.promEnabled := rfl
@[simp] theorem recordHistory_cycles (s : State) : (recordHistory s).cycles = s.cycles := rfl
@[simp] theorem recordHistory_q (s : State) : (recordHistory s).q = s.q := rfl
@[simp] theorem recordHistory_vma (s : State) : (recordHistory s).vma = s.vma := rfl
@[simp] theorem recordHistory_md (s : State) : (recordHistory s).md = s.md := rfl
@[simp] theorem recordHistory_newMd (s : State) : (recordHistory s).newMd = s.newMd := rfl
@[simp] theorem recordHistory_newMdDelay (s : State) : (recordHistory s).newMdDelay = s.newMdDelay := rfl
@[simp] theorem recordHistory_lc (s : State) : (recordHistory s).lc = s.lc := rfl
@[simp] theorem recordHistory_dispatchConstant (s : State) :
    (recordHistory s).dispatchConstant = s.dispatchConstant := rfl
@[simp] theorem recordHistory_opc (s : State) : (recordHistory s).opc = s.opc := rfl
@[simp] theorem recordHistory_pdlPtr (s : State) : (recordHistory s).pdlPtr = s.pdlPtr := rfl
@[simp] theorem recordHistory_pdlIndex (s : State) : (recordHistory s).pdlIndex = s.pdlIndex := rfl
@[simp] theorem recordHistory_spcPtr (s : State) : (recordHistory s).spcPtr = s.spcPtr := rfl
@[simp] theorem recordHistory_accessFault (s : State) : (recordHistory s).accessFault = s.accessFault := rfl
@[simp] theorem recordHistory_writeFault (s : State) : (recordHistory s).writeFault = s.writeFault := rfl
@[simp] theorem recordHistory_pageFault (s : State) : (recordHistory s).pageFault = s.pageFault := rfl
@[simp] theorem recordHistory_isr (s : State) : (recordHistory s).isr = s.isr := rfl
@[simp] theorem recordHistory_interruptPending (s : State) :
    (recordHistory s).interruptPending = s.interruptPending := rfl
@[simp] theorem recordHistory_cache (s : State) : (recordHistory s).cache = s.cache := rfl
@[simp] theorem recordHistory_aMem (s : State) : (recordHistory s).aMem = s.aMem := rfl
@[simp] theorem recordHistory_mMem (s : State) : (recordHistory s).mMem = s.mMem := rfl
@[simp] theorem recordHistory_pdl (s : State) : (recordHistory s).pdl = s.pdl := rfl
@[simp] theorem recordHistory_spc (s : State) : (recordHistory s).spc = s.spc := rfl
@[simp] theorem recordHistory_dmem (s : State) : (recordHistory s).dmem = s.dmem := rfl
@[simp] theorem recordHistory_ucode (s : State) : (recordHistory s).ucode = s.ucode := rfl
@[simp] theorem recordHistory_prom (s : State) : (recordHistory s).prom = s.prom := rfl
@[simp] theorem recordHistory_l1 (s : State) : (recordHistory s).l1 = s.l1 := rfl
@[simp] theorem recordHistory_l2 (s : State) : (recordHistory s).l2 = s.l2 := rfl
@[simp] theorem recordHistory_pages (s : State) : (recordHistory s).pages = s.pages := rfl
@[simp] theorem recordHistory_mem (s : State) : (recordHistory s).mem = s.mem := rfl
@[simp] theorem recordHistory_ramLast (s : State) : (recordHistory s).ramLast = s.ramLast := rfl
@[simp] theorem recordHistory_pcHistory (s : State) :
    (recordHistory s).pcHistory = (s.p0Pc :: s.pcHistory).take s.pcHistoryDepth := rfl
@[simp] theorem recordHistory_macroHistory (s : State) :
    (recordHistory s).macroHistory = (Config.macroRecord s.freeCount :: s.macroHistory).take s.pcHistoryDepth := rfl
@[simp] theorem recordHistory_pcHistoryDepth (s : State) : (recordHistory s).pcHistoryDepth = s.pcHistoryDepth := rfl
@[simp] theorem recordHistory_pollFast (s : State) : (recordHistory s).pollFast = s.pollFast := rfl
@[simp] theorem recordHistory_pollSlow (s : State) : (recordHistory s).pollSlow = s.pollSlow := rfl
@[simp] theorem recordHistory_devAnswers (s : State) : (recordHistory s).devAnswers = s.devAnswers := rfl
@[simp] theorem recordHistory_devLog (s : State) : (recordHistory s).devLog = s.devLog := rfl
@[simp] theorem recordHistory_freeCount (s : State) : (recordHistory s).freeCount = s.freeCount + 1 := rfl

/-! ### raiseFault .access -/

@[simp] theorem raiseFault_access_uPc (p : Ppn) (s : State) : (raiseFault .access p s).uPc = s.uPc := rfl
@[simp] theorem raiseFault_access_p0 (p : Ppn) (s : State) : (raiseFault .access p s).p0 = s.p0 := rfl
@[simp] theorem raiseFault_access_p1 (p : Ppn) (s : State) : (raiseFault .access p s).p1 = s.p1 := rfl
@[simp] theorem raiseFault_access_p0Pc (p : Ppn) (s : State) : (raiseFault .access p s).p0Pc = s.p0Pc := rfl
@[simp] theorem raiseFault_access_p1Pc (p : Ppn) (s : State) : (raiseFault .access p s).p1Pc = s.p1Pc := rfl
@[simp] theorem raiseFault_access_noExecNext (p : Ppn) (s : State) : (raiseFault .access p s).noExecNext = s.noExecNext := rfl
@[simp] theorem raiseFault_access_oaLo (p : Ppn) (s : State) : (raiseFault .access p s).oaLo = s.oaLo := rfl
@[simp] theorem raiseFault_access_oaLoSet (p : Ppn) (s : State) : (raiseFault .access p s).oaLoSet = s.oaLoSet := rfl
@[simp] theorem raiseFault_access_oaHi (p : Ppn) (s : State) : (raiseFault .access p s).oaHi = s.oaHi := rfl
@[simp] theorem raiseFault_access_oaHiSet (p : Ppn) (s : State) : (raiseFault .access p s).oaHiSet = s.oaHiSet := rfl
@[simp] theorem raiseFault_access_run (p : Ppn) (s : State) : (raiseFault .access p s).run = s.run := rfl
@[simp] theorem raiseFault_access_promEnabled (p : Ppn) (s : State) : (raiseFault .access p s).promEnabled = s.promEnabled := rfl
@[simp] theorem raiseFault_access_cycles (p : Ppn) (s : State) : (raiseFault .access p s).cycles = s.cycles := rfl
@[simp] theorem raiseFault_access_q (p : Ppn) (s : State) : (raiseFault .access p s).q = s.q := rfl
@[simp] theorem raiseFault_access_vma (p : Ppn) (s : State) : (raiseFault .access p s).vma = s.vma := rfl
@[simp] theorem raiseFault_access_md (p : Ppn) (s : State) : (raiseFault .access p s).md = s.md := rfl
@[simp] theorem raiseFault_access_newMd (p : Ppn) (s : State) : (raiseFault .access p s).newMd = s.newMd := rfl
@[simp] theorem raiseFault_access_newMdDelay (p : Ppn) (s : State) : (raiseFault .access p s).newMdDelay = s.newMdDelay := rfl
@[simp] theorem raiseFault_access_lc (p : Ppn) (s : State) : (raiseFault .access p s).lc = s.lc := rfl
@[simp] theorem raiseFault_access_dispatchConstant (p : Ppn) (s : State) : (raiseFault .access p s).dispatchConstant = s.dispatchConstant := rfl
@[simp] theorem raiseFault_access_opc (p : Ppn) (s : State) : (raiseFault .access p s).opc = p := rfl
@[simp] theorem raiseFault_access_pdlPtr (p : Ppn) (s : State) : (raiseFault .access p s).pdlPtr = s.pdlPtr := rfl
@[simp] theorem raiseFault_access_pdlIndex (p : Ppn) (s : State) : (raiseFault .access p s).pdlIndex = s.pdlIndex := rfl
@[simp] theorem raiseFault_access_spcPtr (p : Ppn) (s : State) : (raiseFault .access p s).spcPtr = s.spcPtr := rfl
@[simp] theorem raiseFault_access_accessFault (p : Ppn) (s : State) : (raiseFault .access p s).accessFault = true := rfl
@[simp] theorem raiseFault_access_writeFault (p : Ppn) (s : State) : (raiseFault .access p s).writeFault = s.writeFault := rfl
@[simp] theorem raiseFault_access_pageFault (p : Ppn) (s : State) : (raiseFault .access p s).pageFault = true := rfl
@[simp] theorem raiseFault_access_isr (p : Ppn) (s : State) : (raiseFault .access p s).isr = s.isr := rfl
@[simp] theorem raiseFault_access_interruptPending (p : Ppn) (s : State) : (raiseFault .access p s).interruptPending = s.interruptPending := rfl
@[simp] theorem raiseFault_access_cache (p : Ppn) (s : State) : (raiseFault .access p s).cache = s.cache := rfl
@[simp] theorem raiseFault_access_aMem (p : Ppn) (s : State) : (raiseFault .access p s).aMem = s.aMem := rfl
@[simp] theorem raiseFault_access_mMem (p : Ppn) (s : State) : (raiseFault .access p s).mMem = s.mMem := rfl
@[simp] theorem raiseFault_access_pdl (p : Ppn) (s : State) : (raiseFault .access p s).pdl = s.pdl := rfl
@[simp] theorem raiseFault_access_spc (p : Ppn) (s : State) : (raiseFault .access p s).spc = s.spc := rfl
@[simp] theorem raiseFault_access_dmem (p : Ppn) (s : State) : (raiseFault .access p s).dmem = s.dmem := rfl
@[simp] theorem raiseFault_access_ucode (p : Ppn) (s : State) : (raiseFault .access p s).ucode = s.ucode := rfl
@[simp] theorem raiseFault_access_prom (p : Ppn) (s : State) : (raiseFault .access p s).prom = s.prom := rfl
@[simp] theorem raiseFault_access_l1 (p : Ppn) (s : State) : (raiseFault .access p s).l1 = s.l1 := rfl
@[simp] theorem raiseFault_access_l2 (p : Ppn) (s : State) : (raiseFault .access p s).l2 = s.l2 := rfl
@[simp] theorem raiseFault_access_pages (p : Ppn) (s : State) : (raiseFault .access p s).pages = s.pages := rfl
@[simp] theorem raiseFault_access_mem (p : Ppn) (s : State) : (raiseFault .access p s).mem = s.mem := rfl
@[simp] theorem raiseFault_access_ramLast (p : Ppn) (s : State) : (raiseFault .access p s).ramLast = s.ramLast := rfl
@[simp] theorem raiseFault_access_pcHistory (p : Ppn) (s : State) : (raiseFault .access p s).pcHistory = s.pcHistory := rfl
@[simp] theorem raiseFault_access_macroHistory (p : Ppn) (s : State) : (raiseFault .access p s).macroHistory = s.macroHistory := rfl
@[simp] theorem raiseFault_access_pcHistoryDepth (p : Ppn) (s : State) : (raiseFault .access p s).pcHistoryDepth = s.pcHistoryDepth := rfl
@[simp] theorem raiseFault_access_pollFast (p : Ppn) (s : State) : (raiseFault .access p s).pollFast = s.pollFast := rfl
@[simp] theorem raiseFault_access_pollSlow (p : Ppn) (s : State) : (raiseFault .access p s).pollSlow = s.pollSlow := rfl
@[simp] theorem raiseFault_access_devAnswers (p : Ppn) (s : State) : (raiseFault .access p s).devAnswers = s.devAnswers := rfl
@[simp] theorem raiseFault_access_devLog (p : Ppn) (s : State) : (raiseFault .access p s).devLog = s.devLog := rfl
@[simp] theorem raiseFault_access_freeCount (p : Ppn) (s : State) : (raiseFault .access p s).freeCount = s.freeCount := rfl

/-! ### raiseFault .write -/

@[simp] theorem raiseFault_write_uPc (p : Ppn) (s : State) : (raiseFault .write p s).uPc = s.uPc := rfl
@[simp] theorem raiseFault_write_p0 (p : Ppn) (s : State) : (raiseFault .write p s).p0 = s.p0 := rfl
@[simp] theorem raiseFault_write_p1 (p : Ppn) (s : State) : (raiseFault .write p s).p1 = s.p1 := rfl
@[simp] theorem raiseFault_write_p0Pc (p : Ppn) (s : State) : (raiseFault .write p s).p0Pc = s.p0Pc := rfl
@[simp] theorem raiseFault_write_p1Pc (p : Ppn) (s : State) : (raiseFault .write p s).p1Pc = s.p1Pc := rfl
@[simp] theorem raiseFault_write_noExecNext (p : Ppn) (s : State) : (raiseFault .write p s).noExecNext = s.noExecNext := rfl
@[simp] theorem raiseFault_write_oaLo (p : Ppn) (s : State) : (raiseFault .write p s).oaLo = s.oaLo := rfl
@[simp] theorem raiseFault_write_oaLoSet (p : Ppn) (s : State) : (raiseFault .write p s).oaLoSet = s.oaLoSet := rfl
@[simp] theorem raiseFault_write_oaHi (p : Ppn) (s : State) : (raiseFault .write p s).oaHi = s.oaHi := rfl
@[simp] theorem raiseFault_write_oaHiSet (p : Ppn) (s : State) : (raiseFault .write p s).oaHiSet = s.oaHiSet := rfl
@[simp] theorem raiseFault_write_run (p : Ppn) (s : State) : (raiseFault .write p s).run = s.run := rfl
@[simp] theorem raiseFault_write_promEnabled (p : Ppn) (s : State) : (raiseFault .write p s).promEnabled = s.promEnabled := rfl
@[simp] theorem raiseFault_write_cycles (p : Ppn) (s : State) : (raiseFault .write p s).cycles = s.cycles := rfl
@[simp] theorem raiseFault_write_q (p : Ppn) (s : State) : (raiseFault .write p s).q = s.q := rfl
@[simp] theorem raiseFault_write_vma (p : Ppn) (s : State) : (raiseFault .write p s).vma = s.vma := rfl
@[simp] theorem raiseFault_write_md (p : Ppn) (s : State) : (raiseFault .write p s).md = s.md := rfl
@[simp] theorem raiseFault_write_newMd (p : Ppn) (s : State) : (raiseFault .write p s).newMd = s.newMd := rfl
@[simp] theorem raiseFault_write_newMdDelay (p : Ppn) (s : State) : (raiseFault .write p s).newMdDelay = s.newMdDelay := rfl
@[simp] theorem raiseFault_write_lc (p : Ppn) (s : State) : (raiseFault .write p s).lc = s.lc := rfl
@[simp] theorem raiseFault_write_dispatchConstant (p : Ppn) (s : State) : (raiseFault .write p s).dispatchConstant = s.dispatchConstant := rfl
@[simp] theorem raiseFault_write_opc (p : Ppn) (s : State) : (raiseFault .write p s).opc = p := rfl
@[simp] theorem raiseFault_write_pdlPtr (p : Ppn) (s : State) : (raiseFault .write p s).pdlPtr = s.pdlPtr := rfl
@[simp] theorem raiseFault_write_pdlIndex (p : Ppn) (s : State) : (raiseFault .write p s).pdlIndex = s.pdlIndex := rfl
@[simp] theorem raiseFault_write_spcPtr (p : Ppn) (s : State) : (raiseFault .write p s).spcPtr = s.spcPtr := rfl
@[simp] theorem raiseFault_write_accessFault (p : Ppn) (s : State) : (raiseFault .write p s).accessFault = s.accessFault := rfl
@[simp] theorem raiseFault_write_writeFault (p : Ppn) (s : State) : (raiseFault .write p s).writeFault = true := rfl
@[simp] theorem raiseFault_write_pageFault (p : Ppn) (s : State) : (raiseFault .write p s).pageFault = true := rfl
@[simp] theorem raiseFault_write_isr (p : Ppn) (s : State) : (raiseFault .write p s).isr = s.isr := rfl
@[simp] theorem raiseFault_write_interruptPending (p : Ppn) (s : State) : (raiseFault .write p s).interruptPending = s.interruptPending := rfl
@[simp] theorem raiseFault_write_cache (p : Ppn) (s : State) : (raiseFault .write p s).cache = s.cache := rfl
@[simp] theorem raiseFault_write_aMem (p : Ppn) (s : State) : (raiseFault .write p s).aMem = s.aMem := rfl
@[simp] theorem raiseFault_write_mMem (p : Ppn) (s : State) : (raiseFault .write p s).mMem = s.mMem := rfl
@[simp] theorem raiseFault_write_pdl (p : Ppn) (s : State) : (raiseFault .write p s).pdl = s.pdl := rfl
@[simp] theorem raiseFault_write_spc (p : Ppn) (s : State) : (raiseFault .write p s).spc = s.spc := rfl
@[simp] theorem raiseFault_write_dmem (p : Ppn) (s : State) : (raiseFault .write p s).dmem = s.dmem := rfl
@[simp] theorem raiseFault_write_ucode (p : Ppn) (s : State) : (raiseFault .write p s).ucode = s.ucode := rfl
@[simp] theorem raiseFault_write_prom (p : Ppn) (s : State) : (raiseFault .write p s).prom = s.prom := rfl
@[simp] theorem raiseFault_write_l1 (p : Ppn) (s : State) : (raiseFault .write p s).l1 = s.l1 := rfl
@[simp] theorem raiseFault_write_l2 (p : Ppn) (s : State) : (raiseFault .write p s).l2 = s.l2 := rfl
@[simp] theorem raiseFault_write_pages (p : Ppn) (s : State) : (raiseFault .write p s).pages = s.pages := rfl
@[simp] theorem raiseFault_write_mem (p : Ppn) (s : State) : (raiseFault .write p s).mem = s.mem := rfl
@[simp] theorem raiseFault_write_ramLast (p : Ppn) (s : State) : (raiseFault .write p s).ramLast = s.ramLast := rfl
@[simp] theorem raiseFault_write_pcHistory (p : Ppn) (s : State) : (raiseFault .write p s).pcHistory = s.pcHistory := rfl
@[simp] theorem raiseFault_write_macroHistory (p : Ppn) (s : State) : (raiseFault .write p s).macroHistory = s.macroHistory := rfl
@[simp] theorem raiseFault_write_pcHistoryDepth (p : Ppn) (s : State) : (raiseFault .write p s).pcHistoryDepth = s.pcHistoryDepth := rfl
@[simp] theorem raiseFault_write_pollFast (p : Ppn) (s : State) : (raiseFault .write p s).pollFast = s.pollFast := rfl
@[simp] theorem raiseFault_write_pollSlow (p : Ppn) (s : State) : (raiseFault .write p s).pollSlow = s.pollSlow := rfl
@[simp] theorem raiseFault_write_devAnswers (p : Ppn) (s : State) : (raiseFault .write p s).devAnswers = s.devAnswers := rfl
@[simp] theorem raiseFault_write_devLog (p : Ppn) (s : State) : (raiseFault .write p s).devLog = s.devLog := rfl
@[simp] theorem raiseFault_write_freeCount (p : Ppn) (s : State) : (raiseFault .write p s).freeCount = s.freeCount := rfl

end Sys2Proof.Machine
end

