-- ==== Sys2Proof/Laws/Store.lean ====
section
/-! SUPPORT. What the store and memory operations do: reads after writes, and that every operation keeps the
canonical form. -/

namespace Sys2Proof.Machine

variable {w : Nat}

@[simp] theorem Store.get_nil (i : Nat) : Store.get ([] : Store w) i = 0 := rfl

theorem Store.get_cons (j : Nat) (v : BitVec w) (m : Store w) (i : Nat) :
    Store.get ((j, v) :: m) i = if j = i then v else Store.get m i := rfl

/-! ### Reads after writes -/

theorem Store.get_erase_self (m : Store w) (i : Nat) : Store.get (Store.erase m i) i = 0 := by
  induction m with
  | nil => rfl
  | cons p m ih =>
    obtain ⟨j, v⟩ := p
    by_cases h : j = i
    · simpa [Store.erase, h] using ih
    · simpa [Store.erase, h, Store.get_cons] using ih

theorem Store.get_erase_ne (m : Store w) {i k : Nat} (h : k ≠ i) :
    Store.get (Store.erase m i) k = Store.get m k := by
  induction m with
  | nil => rfl
  | cons p m ih =>
    obtain ⟨j, v⟩ := p
    by_cases hj : j = i
    · have : ¬ j = k := fun e => h (e ▸ hj)
      simpa [Store.erase, hj, Store.get_cons, hj ▸ this] using ih
    · simp [Store.erase, hj, Store.get_cons, ih]

/-- The keys of a store. -/
def Store.keys (m : Store w) : List Nat := m.map Prod.fst

theorem Store.keys_erase (m : Store w) (i k : Nat) : k ∈ Store.keys (Store.erase m i) → k ∈ Store.keys m ∧ k ≠ i := by
  induction m with
  | nil => intro h; exact absurd h (List.not_mem_nil)
  | cons p m ih =>
    obtain ⟨j, v⟩ := p
    by_cases hj : j = i
    · simp only [Store.erase, hj, if_true]
      intro h
      exact ⟨List.mem_cons_of_mem _ (ih h).1, (ih h).2⟩
    · simp only [Store.erase, hj, if_false]
      intro h
      rcases List.mem_cons.mp h with h | h
      · subst h; exact ⟨List.mem_cons_self, hj⟩
      · exact ⟨List.mem_cons_of_mem _ (ih h).1, (ih h).2⟩

theorem Store.get_insert_self (m : Store w) (i : Nat) (v : BitVec w) (h : i ∉ Store.keys m) :
    Store.get (Store.insert m i v) i = v := by
  induction m with
  | nil => simp [Store.insert, Store.get_cons]
  | cons p m ih =>
    obtain ⟨j, u⟩ := p
    have hj : j ≠ i := fun e => h (by simp [Store.keys, e])
    have hm : i ∉ Store.keys m := fun e => h (List.mem_cons_of_mem _ e)
    by_cases hlt : i < j
    · simp [Store.insert, hlt, Store.get_cons]
    · simp [Store.insert, hlt, Store.get_cons, hj, ih hm]

theorem Store.get_insert_ne (m : Store w) {i k : Nat} (v : BitVec w) (h : k ≠ i) :
    Store.get (Store.insert m i v) k = Store.get m k := by
  induction m with
  | nil => simp [Store.insert, Store.get_cons, Ne.symm h]
  | cons p m ih =>
    obtain ⟨j, u⟩ := p
    by_cases hlt : i < j
    · simp [Store.insert, hlt, Store.get_cons, Ne.symm h]
    · simp [Store.insert, hlt, Store.get_cons, ih]

/-- Reading the index just written gives the value written. -/
@[simp] theorem Store.get_set_self (m : Store w) (i : Nat) (v : BitVec w) : Store.get (Store.set m i v) i = v := by
  unfold Store.set
  split
  · next h => rw [Store.get_erase_self, h]
  · exact Store.get_insert_self _ _ _ fun h => (Store.keys_erase m i i h).2 rfl

/-- Reading another index gives what it gave before. -/
theorem Store.get_set_ne (m : Store w) {i k : Nat} (v : BitVec w) (h : k ≠ i) :
    Store.get (Store.set m i v) k = Store.get m k := by
  unfold Store.set
  split
  · exact Store.get_erase_ne m h
  · rw [Store.get_insert_ne _ _ h, Store.get_erase_ne m h]

/-! ### The canonical form -/

/-- Every key of `m` is larger than `i`. -/
def Store.above (i : Nat) (m : Store w) : Prop := ∀ k ∈ Store.keys m, i < k

theorem Store.rising_cons (j : Nat) (v : BitVec w) (m : Store w) :
    Store.rising ((j, v) :: m) = true ↔ Store.above j m ∧ Store.rising m = true := by
  induction m generalizing j v with
  | nil => simp [Store.rising, Store.above, Store.keys]
  | cons p m ih =>
    obtain ⟨k, u⟩ := p
    simp only [Store.rising, Bool.and_eq_true, decide_eq_true_eq]
    constructor
    · rintro ⟨h1, h2⟩
      refine ⟨fun x hx => ?_, h2⟩
      rcases List.mem_cons.mp hx with hx | hx
      · exact hx ▸ h1
      · exact Nat.lt_trans h1 (((ih k u).mp h2).1 x hx)
    · rintro ⟨h1, h2⟩
      exact ⟨h1 k (List.mem_cons_self), h2⟩

theorem Store.rising_erase (m : Store w) (i : Nat) (h : Store.rising m = true) :
    Store.rising (Store.erase m i) = true := by
  induction m with
  | nil => rfl
  | cons p m ih =>
    obtain ⟨j, v⟩ := p
    have hr := (Store.rising_cons j v m).mp h
    by_cases hj : j = i
    · simpa [Store.erase, hj] using ih hr.2
    · simp only [Store.erase, hj, if_false]
      exact (Store.rising_cons _ _ _).mpr ⟨fun k hk => hr.1 k (Store.keys_erase m i k hk).1, ih hr.2⟩

theorem Store.keys_insert (m : Store w) (i k : Nat) (v : BitVec w) :
    k ∈ Store.keys (Store.insert m i v) → k = i ∨ k ∈ Store.keys m := by
  induction m with
  | nil => intro h; simpa [Store.insert, Store.keys] using h
  | cons p m ih =>
    obtain ⟨j, u⟩ := p
    by_cases hlt : i < j
    · intro h
      simpa [Store.insert, hlt, Store.keys] using h
    · simp only [Store.insert, hlt, if_false]
      intro h
      rcases List.mem_cons.mp h with h | h
      · exact .inr (h ▸ List.mem_cons_self)
      · exact (ih h).imp_right (List.mem_cons_of_mem _)

theorem Store.rising_insert (m : Store w) (i : Nat) (v : BitVec w) (h : Store.rising m = true)
    (hi : i ∉ Store.keys m) : Store.rising (Store.insert m i v) = true := by
  induction m with
  | nil => rfl
  | cons p m ih =>
    obtain ⟨j, u⟩ := p
    have hr := (Store.rising_cons j u m).mp h
    have hij : j ≠ i := fun e => hi (by simp [Store.keys, e])
    by_cases hlt : i < j
    · simp only [Store.insert, hlt, if_true]
      refine (Store.rising_cons _ _ _).mpr ⟨fun k hk => ?_, h⟩
      rcases List.mem_cons.mp hk with hk | hk
      · exact hk ▸ hlt
      · exact Nat.lt_trans hlt (hr.1 k hk)
    · simp only [Store.insert, hlt, if_false]
      refine (Store.rising_cons _ _ _).mpr
        ⟨fun k hk => ?_, ih hr.2 fun e => hi (List.mem_cons_of_mem _ e)⟩
      rcases Store.keys_insert m i k v hk with hk | hk
      · omega
      · exact hr.1 k hk

theorem Store.all_erase (m : Store w) (i : Nat) (f : Nat × BitVec w → Bool) (h : m.all f = true) :
    (Store.erase m i).all f = true := by
  induction m with
  | nil => rfl
  | cons p m ih =>
    obtain ⟨j, v⟩ := p
    simp only [List.all_cons, Bool.and_eq_true] at h
    by_cases hj : j = i
    · simpa [Store.erase, hj] using ih h.2
    · simp only [Store.erase, hj, if_false, List.all_cons, Bool.and_eq_true]
      exact ⟨h.1, ih h.2⟩

theorem Store.all_insert (m : Store w) (i : Nat) (v : BitVec w) (f : Nat × BitVec w → Bool) (h : m.all f = true)
    (hv : f (i, v) = true) : (Store.insert m i v).all f = true := by
  induction m with
  | nil => simp [Store.insert, hv]
  | cons p m ih =>
    obtain ⟨j, u⟩ := p
    simp only [List.all_cons, Bool.and_eq_true] at h
    by_cases hlt : i < j
    · simp [Store.insert, hlt, hv, h.1]
      simpa using h.2
    · simp only [Store.insert, hlt, if_false, List.all_cons, Bool.and_eq_true]
      exact ⟨h.1, ih h.2⟩

/-- A write inside a memory keeps its canonical form. -/
theorem Store.wf_set (size : Nat) (m : Store w) (i : Nat) (v : BitVec w) (h : Store.wf size m = true)
    (hi : i < size) : Store.wf size (Store.set m i v) = true := by
  simp only [Store.wf, Bool.and_eq_true] at h ⊢
  unfold Store.set
  split
  · exact ⟨Store.rising_erase m i h.1, Store.all_erase m i _ h.2⟩
  · next hv =>
    refine ⟨Store.rising_insert _ _ _ (Store.rising_erase m i h.1) fun e => (Store.keys_erase m i i e).2 rfl,
      Store.all_insert _ _ _ _ (Store.all_erase m i _ h.2) ?_⟩
    simp only [hi, decide_true, Bool.true_and, bne_iff_ne, ne_eq]
    exact hv

@[simp] theorem Store.wf_nil (size : Nat) : Store.wf size ([] : Store w) = true := rfl

/-! ### Allocated pages -/

theorem mem_insertPage (pages : List Nat) (p k : Nat) : k ∈ insertPage pages p ↔ k = p ∨ k ∈ pages := by
  induction pages with
  | nil => simp [insertPage]
  | cons r rest ih =>
    unfold insertPage
    split
    · simp
    · split
      · next h => subst h; simp
      · simp [ih]; tauto

theorem pagesRising_cons (p : Nat) (rest : List Nat) :
    pagesRising (p :: rest) = true ↔ (∀ k ∈ rest, p < k) ∧ pagesRising rest = true := by
  induction rest generalizing p with
  | nil => simp [pagesRising]
  | cons r rest ih =>
    simp only [pagesRising, Bool.and_eq_true, decide_eq_true_eq]
    constructor
    · rintro ⟨h1, h2⟩
      refine ⟨fun x hx => ?_, h2⟩
      rcases List.mem_cons.mp hx with hx | hx
      · exact hx ▸ h1
      · exact Nat.lt_trans h1 (((ih r).mp h2).1 x hx)
    · rintro ⟨h1, h2⟩
      exact ⟨h1 r (List.mem_cons_self), h2⟩

theorem pagesRising_insertPage (pages : List Nat) (p : Nat) (h : pagesRising pages = true) :
    pagesRising (insertPage pages p) = true := by
  induction pages with
  | nil => rfl
  | cons r rest ih =>
    have hr := (pagesRising_cons r rest).mp h
    unfold insertPage
    split
    · next hlt =>
      refine (pagesRising_cons _ _).mpr ⟨fun k hk => ?_, h⟩
      rcases List.mem_cons.mp hk with hk | hk
      · exact hk ▸ hlt
      · exact Nat.lt_trans hlt (hr.1 k hk)
    · split
      · exact h
      · refine (pagesRising_cons _ _).mpr ⟨fun k hk => ?_, ih hr.2⟩
        rcases (mem_insertPage rest p k).mp hk with hk | hk
        · omega
        · exact hr.1 k hk

/-- Adding a page below the limit keeps the canonical form. -/
theorem pagesWf_insertPage (pages : List Nat) (p : Nat) (h : pagesWf pages = true) (hp : p < 8192) :
    pagesWf (insertPage pages p) = true := by
  simp only [pagesWf, Bool.and_eq_true, List.all_eq_true, decide_eq_true_eq] at h ⊢
  refine ⟨pagesRising_insertPage pages p h.1, fun k hk => ?_⟩
  rcases (mem_insertPage pages p k).mp hk with hk | hk
  · exact hk ▸ hp
  · exact h.2 k hk

/-! ### Bytes and words of physical memory -/

theorem writeWord_byte (mem : List Host.Cell) (k : Nat) (v : Word) (b : Nat) :
    readByte (writeWord mem k v) b =
      if b = k + 3 then v.extractLsb' 24 8 else if b = k + 2 then v.extractLsb' 16 8
      else if b = k + 1 then v.extractLsb' 8 8 else if b = k then v.extractLsb' 0 8 else readByte mem b := by
  unfold readByte writeWord
  by_cases h3 : b = k + 3
  · subst h3; simp
  by_cases h2 : b = k + 2
  · subst h2; simp [Store.get_set_ne]
  by_cases h1 : b = k + 1
  · subst h1; simp [Store.get_set_ne]
  by_cases h0 : b = k
  · subst h0; simp [Store.get_set_ne]
  · simp [Store.get_set_ne, h0, h1, h2, h3]

/-- A byte outside the four stored reads as before. -/
theorem writeWord_byte_outside (mem : List Host.Cell) (k : Nat) (v : Word) (b : Nat) (h : b < k ∨ k + 4 ≤ b) :
    readByte (writeWord mem k v) b = readByte mem b := by
  rw [writeWord_byte]
  rw [if_neg (by omega), if_neg (by omega), if_neg (by omega), if_neg (by omega)]

/-- A word reads back as it was stored. -/
theorem readWord_writeWord (mem : List Host.Cell) (k : Nat) (v : Word) : readWord (writeWord mem k v) k = v := by
  have e3 : readByte (writeWord mem k v) (k + 3) = v.extractLsb' 24 8 := by rw [writeWord_byte]; simp
  have e2 : readByte (writeWord mem k v) (k + 2) = v.extractLsb' 16 8 := by rw [writeWord_byte]; simp
  have e1 : readByte (writeWord mem k v) (k + 1) = v.extractLsb' 8 8 := by rw [writeWord_byte]; simp
  have e0 : readByte (writeWord mem k v) k = v.extractLsb' 0 8 := by rw [writeWord_byte]; simp
  unfold readWord
  rw [e3, e2, e1, e0]
  have h1 : v.extractLsb' 24 8 ++ v.extractLsb' 16 8 = v.extractLsb' 16 16 :=
    BitVec.extractLsb'_append_extractLsb'_eq_extractLsb' rfl
  have h2 : (v.extractLsb' 16 16 : BitVec 16) ++ v.extractLsb' 8 8 = v.extractLsb' 8 24 :=
    BitVec.extractLsb'_append_extractLsb'_eq_extractLsb' rfl
  have h3 : (v.extractLsb' 8 24 : BitVec 24) ++ v.extractLsb' 0 8 = v.extractLsb' 0 32 :=
    BitVec.extractLsb'_append_extractLsb'_eq_extractLsb' rfl
  rw [h1]
  erw [h2]
  erw [h3]
  exact BitVec.extractLsb'_eq_self

/-- A word outside the four stored bytes reads as before. -/
theorem readWord_writeWord_outside (mem : List Host.Cell) (k j : Nat) (v : Word) (h : j + 4 ≤ k ∨ k + 4 ≤ j) :
    readWord (writeWord mem k v) j = readWord mem j := by
  unfold readWord
  rw [writeWord_byte_outside _ _ _ _ (by omega), writeWord_byte_outside _ _ _ _ (by omega),
    writeWord_byte_outside _ _ _ _ (by omega), writeWord_byte_outside _ _ _ _ (by omega)]

/-- Storing a word inside the possible pages keeps the canonical form of memory. -/
theorem Memory.wf_writeWord (mem : List Host.Cell) (k : Nat) (v : Word) (h : Memory.wf mem = true)
    (hk : k + 4 ≤ 8192 * 1024) : Memory.wf (writeWord mem k v) = true := by
  unfold Memory.wf writeWord at *
  exact Store.wf_set _ _ _ _ (Store.wf_set _ _ _ _ (Store.wf_set _ _ _ _ (Store.wf_set _ _ _ _ h (by omega))
    (by omega)) (by omega)) (by omega)

end Sys2Proof.Machine
end

