-- ==== Sys2Proof/Laws/Ops.lean ====
section
/-! SUPPORT. For each shared operation, once, everything it can do. -/

namespace Sys2Proof.Machine

/-! ### Register files -/

theorem readMMem_writeM_self (i : BitVec 5) (v : Word) (s : State) : readMMem (writeM i v s) i = v := by
  simp [readMMem]

theorem readAMem_writeM_alias (i : BitVec 5) (v : Word) (s : State) :
    readAMem (writeM i v s) (i.setWidth 10) = v := by
  have : (i.setWidth 10).toNat = i.toNat := by simp; omega
  simp [readAMem, this]

theorem readAMem_writeAMem_self (i : BitVec 10) (v : Word) (s : State) : readAMem (writeAMem i v s) i = v := by
  simp [readAMem]

theorem readAMem_writeAMem_ne {i j : BitVec 10} (v : Word) (s : State) (h : j ≠ i) :
    readAMem (writeAMem i v s) j = readAMem s j := by
  have : j.toNat ≠ i.toNat := fun e => h (BitVec.eq_of_toNat_eq e)
  simp [readAMem, Store.get_set_ne _ _ this]

theorem readMMem_writeM_ne {i j : BitVec 5} (v : Word) (s : State) (h : j ≠ i) :
    readMMem (writeM i v s) j = readMMem s j := by
  have : j.toNat ≠ i.toNat := fun e => h (BitVec.eq_of_toNat_eq e)
  simp [readMMem, Store.get_set_ne _ _ this]

theorem readPdl_writePdl_self (i : BitVec 10) (v : Word) (s : State) : readPdl (writePdl i v s) i = v := by
  simp [readPdl]

/-- What was pushed is on top. -/
theorem spcTop_spcPush (v : BitVec 19) (s : State) : spcTop (spcPush v s) = v := by simp [spcTop]

/-! ### The interrupt controller -/

/-- An operation of the interrupt controller changes the ISR and the flag derived from it, nothing else. -/
def onlyIsr (s t : State) : Prop := t = s ∨ ∃ v, t = setIsr v s

theorem assertUnibus_onlyIsr (vec : BitVec 16) (s : State) : onlyIsr s (assertUnibus vec s) := by
  unfold assertUnibus
  split
  · exact .inr ⟨_, rfl⟩
  · exact .inl rfl

theorem deassertUnibus_onlyIsr (s : State) : onlyIsr s (deassertUnibus s) := by
  unfold deassertUnibus
  split
  · exact .inr ⟨_, rfl⟩
  · exact .inl rfl

theorem assertXbus_onlyIsr (s : State) : onlyIsr s (assertXbus s) := .inr ⟨_, rfl⟩

theorem deassertXbus_onlyIsr (s : State) : onlyIsr s (deassertXbus s) := by
  unfold deassertXbus
  split
  · exact .inr ⟨_, rfl⟩
  · exact .inl rfl

/-- A bus write of the unibus page sets the ISR, or disables the PROM, or does nothing. -/
theorem unibusWrite_cases (off : BitVec 8) (v : Word) (s : State) :
    onlyIsr s (unibusWrite off v s) ∨ unibusWrite off v s = { s with promEnabled := false } := by
  unfold unibusWrite
  dsimp only
  split
  · exact .inl (.inr ⟨_, rfl⟩)
  · split
    · exact .inl (.inr ⟨_, rfl⟩)
    · split
      · split
        · exact .inr rfl
        · exact .inl (.inl rfl)
      · exact .inl (.inl rfl)

/-! ### Pages -/

/-- `ensurePage` changes the set of pages only. -/
theorem ensurePage_eq (p : Ppn) (s : State) : ensurePage p s = { s with pages := (ensurePage p s).pages } := by
  unfold ensurePage
  split <;> rfl

theorem ensurePage_pages (p : Ppn) (s : State) :
    (ensurePage p s).pages = if p.toNat < 8192 then insertPage s.pages p.toNat else s.pages := by
  unfold ensurePage
  split <;> rfl

/-! ### What a device may change -/

theorem deviceFrame.refl (s : State) : deviceFrame s s := rfl

theorem deviceFrame.trans {s t u : State} (h : deviceFrame s t) (h' : deviceFrame t u) : deviceFrame s u := by
  unfold deviceFrame at *
  rw [h'] at *
  rw [h]

theorem deviceFrame.of_onlyIsr {s t : State} (h : onlyIsr s t) : deviceFrame s t := by
  rcases h with rfl | ⟨v, rfl⟩ <;> rfl

theorem unibusWrite_frame (off : BitVec 8) (v : Word) (s : State) : deviceFrame s (unibusWrite off v s) := by
  rcases unibusWrite_cases off v s with h | h
  · exact .of_onlyIsr h
  · rw [h]; rfl

theorem ensurePage_frame (p : Ppn) (s : State) : deviceFrame s (ensurePage p s) := by
  rw [ensurePage_eq]; rfl

theorem ramRead_frame (p : Ppn) (o : BitVec 8) (s : State) : deviceFrame s (ramRead p o s).2 := by
  unfold ramRead
  split
  · rfl
  · split
    · exact ensurePage_frame p s
    · rfl

theorem ramWrite_frame (p : Ppn) (o : BitVec 8) (v : Word) (s : State) : deviceFrame s (ramWrite p o v s) := by
  unfold ramWrite
  split
  · rfl
  · split
    · exact (ensurePage_frame p s).trans rfl
    · rfl

/-- A runner goes on from a state that a device may have reached. -/
theorem deviceFrame.of_run {run : CallRunner} (hr : ∀ cs s, deviceFrame s (run cs s)) {s t : State}
    (cs : List DevCall) (h : deviceFrame s t) : deviceFrame s (run cs t) :=
  h.trans (hr cs t)

theorem deviceReadWith_frame {run : CallRunner} (hr : ∀ cs s, deviceFrame s (run cs s)) (p : Ppn) (o : BitVec 8)
    (va : BitVec 24) (s : State) : deviceFrame s (deviceReadWith run p o va s).2 := by
  simp only [deviceReadWith]
  split
  · rfl
  · exact deviceFrame.of_run hr _ rfl

theorem deviceWriteWith_frame {run : CallRunner} (hr : ∀ cs s, deviceFrame s (run cs s)) (p : Ppn) (o : BitVec 8)
    (v : Word) (va : BitVec 24) (s : State) : deviceFrame s (deviceWriteWith run p o v va s) := by
  simp only [deviceWriteWith]
  split
  · rfl
  · exact deviceFrame.of_run hr _ rfl

theorem physReadWith_frame {run : CallRunner} (hr : ∀ cs s, deviceFrame s (run cs s)) (p : Ppn) (o : BitVec 8)
    (va : BitVec 24) (s : State) : deviceFrame s (physReadWith run p o va s).2 := by
  unfold physReadWith
  split
  · exact deviceReadWith_frame hr p o va s
  · split
    · rfl
    · exact ramRead_frame p o s

theorem physWriteWith_frame {run : CallRunner} (hr : ∀ cs s, deviceFrame s (run cs s)) (p : Ppn) (o : BitVec 8)
    (v : Word) (va : BitVec 24) (s : State) : deviceFrame s (physWriteWith run p o v va s) := by
  unfold physWriteWith
  split
  · exact deviceWriteWith_frame hr p o v va s
  · split
    · exact unibusWrite_frame o v s
    · exact ramWrite_frame p o v s

theorem devCallWith_frame {run : CallRunner} (hr : ∀ cs s, deviceFrame s (run cs s)) (c : DevCall) (s : State) :
    deviceFrame s (devCallWith run c s) := by
  cases c with
  | assertUnibus v => exact .of_onlyIsr (assertUnibus_onlyIsr v s)
  | deassertUnibus => exact .of_onlyIsr (deassertUnibus_onlyIsr s)
  | assertXbus => exact .of_onlyIsr (assertXbus_onlyIsr s)
  | deassertXbus => exact .of_onlyIsr (deassertXbus_onlyIsr s)
  | readPhy p o => exact physReadWith_frame hr p o 0 s
  | writePhy p o v => exact physWriteWith_frame hr p o v 0 s
  | ensurePage p => exact ensurePage_frame p s
  | writeA i v => rfl

theorem devCallsWith_frame {run : CallRunner} (hr : ∀ cs s, deviceFrame s (run cs s)) (cs : List DevCall) (s : State) :
    deviceFrame s (devCallsWith run cs s) := by
  induction cs generalizing s with
  | nil => rfl
  | cons c cs ih => exact (devCallWith_frame hr c s).trans (ih _)

theorem devCallsDepth_frame (depth : Nat) (cs : List DevCall) (s : State) :
    deviceFrame s (devCallsDepth depth cs s) := by
  induction depth generalizing cs s with
  | zero => exact devCallsWith_frame (fun _ s => deviceFrame.refl s) cs s
  | succ depth ih => exact devCallsWith_frame ih cs s

theorem devCalls_frame (cs : List DevCall) (s : State) : deviceFrame s (devCalls cs s) := devCallsDepth_frame _ cs s

/-- The calls of a device run from a state that a device may have reached. -/
theorem devCalls_frame_of {s t : State} (cs : List DevCall) (h : deviceFrame s t) : deviceFrame s (devCalls cs t) :=
  h.trans (devCalls_frame cs t)

theorem physRead_frame (p : Ppn) (o : BitVec 8) (va : BitVec 24) (s : State) : deviceFrame s (physRead p o va s).2 :=
  physReadWith_frame devCalls_frame p o va s

theorem physWrite_frame (p : Ppn) (o : BitVec 8) (v : Word) (va : BitVec 24) (s : State) :
    deviceFrame s (physWrite p o v va s) := physWriteWith_frame devCalls_frame p o v va s

theorem poll_frame (s : State) : deviceFrame s (poll s) := by
  unfold poll
  refine deviceFrame.trans (t := pollFast s) ?_ ?_
  · exact devCalls_frame_of _ rfl
  · unfold pollSlow
    split
    · exact devCalls_frame_of _ rfl
    · rfl

/-! ### The calls of a device, one by one -/

/-- `run` takes answers and adds none. -/
def takesAnswers (run : CallRunner) : Prop := ∀ cs s, (run cs s).devAnswers.length ≤ s.devAnswers.length

/-- Two runners do the same where fewer than `n` answers are left. -/
def agreeBelow (n : Nat) (f g : CallRunner) : Prop := ∀ cs s, s.devAnswers.length < n → f cs s = g cs s

theorem onlyIsr.devAnswers {s t : State} (h : onlyIsr s t) : t.devAnswers = s.devAnswers := by
  rcases h with rfl | ⟨v, rfl⟩ <;> rfl

theorem unibusWrite_devAnswers (o : BitVec 8) (v : Word) (s : State) :
    (unibusWrite o v s).devAnswers = s.devAnswers := by
  rcases unibusWrite_cases o v s with h | h
  · exact h.devAnswers
  · rw [h]

theorem ensurePage_devAnswers (p : Ppn) (s : State) : (ensurePage p s).devAnswers = s.devAnswers := by
  rw [ensurePage_eq]

theorem ramRead_devAnswers (p : Ppn) (o : BitVec 8) (s : State) : (ramRead p o s).2.devAnswers = s.devAnswers := by
  unfold ramRead
  repeat' split
  · rfl
  · exact ensurePage_devAnswers p s
  · rfl

theorem ramWrite_devAnswers (p : Ppn) (o : BitVec 8) (v : Word) (s : State) :
    (ramWrite p o v s).devAnswers = s.devAnswers := by
  unfold ramWrite
  repeat' split
  · rfl
  · exact ensurePage_devAnswers p s
  · rfl

theorem devCallWith_takes {run : CallRunner} (hr : takesAnswers run) (c : DevCall) (s : State) :
    (devCallWith run c s).devAnswers.length ≤ s.devAnswers.length := by
  cases c with
  | assertUnibus v => exact Nat.le_of_eq (congrArg _ (assertUnibus_onlyIsr v s).devAnswers)
  | deassertUnibus => exact Nat.le_of_eq (congrArg _ (deassertUnibus_onlyIsr s).devAnswers)
  | assertXbus => exact Nat.le_of_eq (congrArg _ (assertXbus_onlyIsr s).devAnswers)
  | deassertXbus => exact Nat.le_of_eq (congrArg _ (deassertXbus_onlyIsr s).devAnswers)
  | readPhy p o =>
    simp only [devCallWith, physReadWith, deviceReadWith, logAccess]
    split
    · split
      · exact Nat.le_refl _
      · rename_i a rest h
        exact Nat.le_trans (hr _ _) (by simp [h])
    · split
      · exact Nat.le_refl _
      · rw [ramRead_devAnswers]
  | writePhy p o v =>
    simp only [devCallWith, physWriteWith, deviceWriteWith, logAccess]
    split
    · split
      · exact Nat.le_refl _
      · rename_i a rest h
        exact Nat.le_trans (hr _ _) (by simp [h])
    · split
      · rw [unibusWrite_devAnswers]
      · rw [ramWrite_devAnswers]
  | ensurePage p => exact Nat.le_of_eq (congrArg _ (ensurePage_devAnswers p s))
  | writeA i v => exact Nat.le_refl _

theorem devCallsWith_takes {run : CallRunner} (hr : takesAnswers run) : takesAnswers (devCallsWith run) := by
  intro cs
  induction cs with
  | nil => exact fun s => Nat.le_refl _
  | cons c cs ih => exact fun s => Nat.le_trans (ih _) (devCallWith_takes hr c s)

theorem devCallsDepth_takes (depth : Nat) : takesAnswers (devCallsDepth depth) := by
  induction depth with
  | zero => exact devCallsWith_takes fun _ _ => Nat.le_refl _
  | succ depth ih => exact devCallsWith_takes ih

/-- A call runs another device's calls only after it took an answer. -/
theorem devCallWith_congr {f g : CallRunner} (c : DevCall) (s : State) (h : agreeBelow s.devAnswers.length f g) :
    devCallWith f c s = devCallWith g c s := by
  have key : ∀ a rest l, s.devAnswers = a :: rest →
      f a.calls { s with devLog := l, devAnswers := rest } = g a.calls { s with devLog := l, devAnswers := rest } :=
    fun a rest l e => h _ _ (by rw [e]; simp)
  cases c with
  | readPhy p o =>
    simp only [devCallWith, physReadWith, deviceReadWith, logAccess]
    split
    · rcases hs : s.devAnswers with _ | ⟨a, rest⟩
      · rfl
      · exact key a rest _ hs
    · rfl
  | writePhy p o v =>
    simp only [devCallWith, physWriteWith, deviceWriteWith, logAccess]
    split
    · rcases hs : s.devAnswers with _ | ⟨a, rest⟩
      · rfl
      · exact key a rest _ hs
    · rfl
  | _ => rfl

theorem devCallsWith_congr {f g : CallRunner} (hg : takesAnswers g) (cs : List DevCall) (s : State)
    (h : agreeBelow s.devAnswers.length f g) : devCallsWith f cs s = devCallsWith g cs s := by
  induction cs generalizing s with
  | nil => rfl
  | cons c cs ih =>
    simp only [devCallsWith]
    rw [devCallWith_congr c s h]
    exact ih _ fun cs' s' h' => h cs' s' (Nat.lt_of_lt_of_le h' (devCallWith_takes hg c s))

/-- Any depth from the number of answers on is as good as another. -/
theorem devCallsDepth_eq_devCalls {depth : Nat} (cs : List DevCall) {s : State} (h : s.devAnswers.length ≤ depth) :
    devCallsDepth depth cs s = devCalls cs s := by
  suffices H : ∀ m n cs s, s.devAnswers.length ≤ m → s.devAnswers.length ≤ n →
      devCallsDepth m cs s = devCallsDepth n cs s from H _ _ _ _ h (Nat.le_refl _)
  intro m
  induction m with
  | zero =>
    intro n cs s hm _
    cases n with
    | zero => rfl
    | succ n => exact devCallsWith_congr (devCallsDepth_takes n) cs s fun _ _ h => by omega
  | succ m ih =>
    intro n cs s hm hn
    cases n with
    | zero => exact devCallsWith_congr (fun _ _ => Nat.le_refl _) cs s fun _ _ h => by omega
    | succ n => exact devCallsWith_congr (devCallsDepth_takes n) cs s fun _ _ h => ih _ _ _ (by omega) (by omega)

@[simp] theorem devCalls_nil (s : State) : devCalls [] s = s := by
  unfold devCalls devCallsDepth
  cases s.devAnswers.length <;> rfl

/-- Calls run one after another, and a call that reaches a device (R372) runs the calls of that device. -/
theorem devCalls_cons (c : DevCall) (cs : List DevCall) (s : State) :
    devCalls (c :: cs) s = devCalls cs (devCallWith devCalls c s) := by
  have h : ∀ depth, s.devAnswers.length ≤ depth + 1 →
      devCallWith (devCallsDepth depth) c s = devCallWith devCalls c s := fun depth hd =>
    devCallWith_congr c s fun cs' s' h' => devCallsDepth_eq_devCalls cs' (by omega)
  have e : devCalls (c :: cs) s = devCallsDepth (s.devAnswers.length + 1) (c :: cs) s :=
    (devCallsDepth_eq_devCalls _ (Nat.le_succ _)).symm
  rw [e]
  show devCallsDepth (s.devAnswers.length + 1) cs (devCallWith (devCallsDepth s.devAnswers.length) c s) = _
  rw [h _ (Nat.le_succ _)]
  refine devCallsDepth_eq_devCalls cs (Nat.le_succ_of_le ?_)
  exact devCallWith_takes (fun cs s => devCallsDepth_takes _ cs s) c s

/-! ### Device calls and the rest of the state -/

/-- `t` with everything a device may change taken from `u`. -/
def withDevicePart (t u : State) : State :=
  { t with
    aMem := u.aMem, isr := u.isr, interruptPending := u.interruptPending, pages := u.pages, mem := u.mem
    promEnabled := u.promEnabled, devAnswers := u.devAnswers, devLog := u.devLog, freeCount := u.freeCount
    pollFast := u.pollFast, pollSlow := u.pollSlow }

theorem unibusWrite_withDevicePart (o : BitVec 8) (v : Word) (t s : State) :
    unibusWrite o v (withDevicePart t s) = withDevicePart t (unibusWrite o v s) := by
  simp only [unibusWrite, setIsr]
  repeat' split
  all_goals rfl

theorem ensurePage_withDevicePart (p : Ppn) (t s : State) :
    ensurePage p (withDevicePart t s) = withDevicePart t (ensurePage p s) := by
  unfold ensurePage
  split <;> rfl

theorem ramRead_withDevicePart {t s : State} (h : t.ramLast = s.ramLast) (p : Ppn) (o : BitVec 8) :
    ramRead p o (withDevicePart t s) = ((ramRead p o s).1, withDevicePart t (ramRead p o s).2) := by
  have h1 : pageExists (withDevicePart t s) p = pageExists s p := rfl
  have h2 : isRamPage (withDevicePart t s) p = isRamPage s p := by
    show decide (p.toNat ≤ t.ramLast.toNat) = _
    rw [h]
    rfl
  unfold ramRead
  rw [h1, h2, ensurePage_withDevicePart]
  split
  · rfl
  · split <;> rfl

theorem ramWrite_withDevicePart {t s : State} (h : t.ramLast = s.ramLast) (p : Ppn) (o : BitVec 8) (v : Word) :
    ramWrite p o v (withDevicePart t s) = withDevicePart t (ramWrite p o v s) := by
  have h1 : pageExists (withDevicePart t s) p = pageExists s p := rfl
  have h2 : isRamPage (withDevicePart t s) p = isRamPage s p := by
    show decide (p.toNat ≤ t.ramLast.toNat) = _
    rw [h]
    rfl
  unfold ramWrite
  rw [h1, h2, ensurePage_withDevicePart]
  split
  · rfl
  · split <;> rfl

/-- A runner neither reads nor writes what a device does not touch, but for the parameter `ramLast`. -/
def graftable (run : CallRunner) : Prop :=
  ∀ cs (t s : State), t.ramLast = s.ramLast → run cs (withDevicePart t s) = withDevicePart t (run cs s)

theorem physReadWith_withDevicePart {run : CallRunner} (hr : graftable run) {t s : State} (h : t.ramLast = s.ramLast)
    (p : Ppn) (o : BitVec 8) (va : BitVec 24) :
    physReadWith run p o va (withDevicePart t s) =
      ((physReadWith run p o va s).1, withDevicePart t (physReadWith run p o va s).2) := by
  unfold physReadWith
  split
  · simp only [deviceReadWith, logAccess, show (withDevicePart t s).devAnswers = s.devAnswers from rfl]
    rcases s.devAnswers with _ | ⟨a, rest⟩
    · rfl
    · exact Prod.ext rfl
        (hr a.calls t { s with devLog := .read p o va :: s.devLog, devAnswers := rest } h)
  · split
    · rfl
    · exact ramRead_withDevicePart h p o

theorem physWriteWith_withDevicePart {run : CallRunner} (hr : graftable run) {t s : State} (h : t.ramLast = s.ramLast)
    (p : Ppn) (o : BitVec 8) (v : Word) (va : BitVec 24) :
    physWriteWith run p o v va (withDevicePart t s) = withDevicePart t (physWriteWith run p o v va s) := by
  unfold physWriteWith
  split
  · simp only [deviceWriteWith, logAccess, show (withDevicePart t s).devAnswers = s.devAnswers from rfl]
    rcases s.devAnswers with _ | ⟨a, rest⟩
    · rfl
    · exact hr a.calls t { s with devLog := .write p o v va :: s.devLog, devAnswers := rest } h
  · split
    · exact unibusWrite_withDevicePart o v t s
    · exact ramWrite_withDevicePart h p o v

theorem devCallWith_withDevicePart {run : CallRunner} (hr : graftable run) {t s : State} (h : t.ramLast = s.ramLast)
    (c : DevCall) : devCallWith run c (withDevicePart t s) = withDevicePart t (devCallWith run c s) := by
  cases c with
  | assertUnibus v =>
    simp only [devCallWith, assertUnibus, apply_ite (withDevicePart t)]
    rfl
  | deassertUnibus =>
    simp only [devCallWith, deassertUnibus, apply_ite (withDevicePart t)]
    rfl
  | assertXbus => rfl
  | deassertXbus =>
    simp only [devCallWith, deassertXbus, apply_ite (withDevicePart t)]
    rfl
  | readPhy p o => exact congrArg Prod.snd (physReadWith_withDevicePart hr h p o 0)
  | writePhy p o v => exact physWriteWith_withDevicePart hr h p o v 0
  | ensurePage p => exact ensurePage_withDevicePart p t s
  | writeA i v => rfl

theorem devCallsWith_graftable {run : CallRunner} (hf : ∀ cs s, deviceFrame s (run cs s)) (hr : graftable run) :
    graftable (devCallsWith run) := by
  intro cs
  induction cs with
  | nil => exact fun t s _ => rfl
  | cons c cs ih =>
    intro t s h
    simp only [devCallsWith]
    rw [devCallWith_withDevicePart hr h c]
    refine ih t _ (h.trans ?_)
    rw [devCallWith_frame hf c s]

/-- The calls of a device do not depend on, and leave, everything that is not theirs. -/
theorem devCalls_withDevicePart (cs : List DevCall) {t s : State} (h : t.ramLast = s.ramLast) :
    devCalls cs (withDevicePart t s) = withDevicePart t (devCalls cs s) := by
  suffices H : ∀ depth, graftable (devCallsDepth depth) from H _ cs t s h
  intro depth
  induction depth with
  | zero => exact devCallsWith_graftable (fun _ s => deviceFrame.refl s) fun _ _ _ _ => rfl
  | succ depth ih => exact devCallsWith_graftable (devCallsDepth_frame depth) ih

/-! ### Translation -/

/-- `noteWalk` changes the inert cache only. -/
theorem noteWalk_eq (va : BitVec 24) (s : State) : noteWalk va s = { s with cache := (noteWalk va s).cache } := by
  unfold noteWalk
  split <;> rfl

/-- Translation reads the two maps only. -/
theorem translateVa_congr {s t : State} (h1 : t.l1 = s.l1) (h2 : t.l2 = s.l2) (va : BitVec 24) :
    translateVa t va = translateVa s va := by
  unfold translateVa
  rw [h1, h2]

theorem noteWalk_l1 (va : BitVec 24) (s : State) : (noteWalk va s).l1 = s.l1 := by rw [noteWalk_eq]
theorem noteWalk_l2 (va : BitVec 24) (s : State) : (noteWalk va s).l2 = s.l2 := by rw [noteWalk_eq]

/-! ### Memory cycles -/

/-- Everything `MemRead` can do. -/
theorem memRead_cases (va : BitVec 24) (s : State) :
    ((translateVa s va).accessOk = false ∧
      memRead va s = (none, raiseFault .access (translateVa s va).ppn (noteWalk va (clearFaults s)))) ∨
    ((translateVa s va).accessOk = true ∧
      memRead va s =
        (some (physRead (translateVa s va).ppn (translateVa s va).off va (noteWalk va (clearFaults s))).1,
          (physRead (translateVa s va).ppn (translateVa s va).off va (noteWalk va (clearFaults s))).2)) := by
  have ht : translateVa (noteWalk va (clearFaults s)) va = translateVa s va :=
    translateVa_congr (noteWalk_l1 _ _) (noteWalk_l2 _ _) va
  unfold memRead
  simp only [ht]
  cases h : (translateVa s va).accessOk
  · exact .inl ⟨rfl, by simp⟩
  · exact .inr ⟨rfl, by simp⟩

/-- Everything `MemWrite` can do. -/
theorem memWrite_cases (va : BitVec 24) (v : Word) (s : State) :
    ((translateVa s va).accessOk = false ∧
      memWrite va v s = raiseFault .access (translateVa s va).ppn (noteWalk va (clearFaults s))) ∨
    ((translateVa s va).accessOk = true ∧ (translateVa s va).writeOk = false ∧
      memWrite va v s = raiseFault .write (translateVa s va).ppn (noteWalk va (clearFaults s))) ∨
    ((translateVa s va).accessOk = true ∧ (translateVa s va).writeOk = true ∧
      memWrite va v s =
        physWrite (translateVa s va).ppn (translateVa s va).off v va (noteWalk va (clearFaults s))) := by
  have ht : translateVa (noteWalk va (clearFaults s)) va = translateVa s va :=
    translateVa_congr (noteWalk_l1 _ _) (noteWalk_l2 _ _) va
  unfold memWrite
  simp only [ht]
  cases h : (translateVa s va).accessOk
  · exact .inl ⟨rfl, by simp⟩
  · cases hw : (translateVa s va).writeOk
    · exact .inr (.inl ⟨rfl, rfl, by simp⟩)
    · exact .inr (.inr ⟨rfl, rfl, by simp⟩)

/-- Everything `StartRead` can do. -/
theorem startRead_cases (s : State) :
    (∃ t, memRead (cycleAddress s) s = (none, t) ∧ startRead s = t) ∨
    (∃ v t, memRead (cycleAddress s) s = (some v, t) ∧ startRead s = { t with newMd := v, newMdDelay := 2 }) := by
  unfold startRead
  rcases h : memRead (cycleAddress s) s with ⟨_ | v, t⟩
  · exact .inl ⟨t, rfl, rfl⟩
  · exact .inr ⟨v, t, rfl, rfl⟩

/-! ### Advance and return -/

/-- Everything `AdvanceLC` can do. -/
theorem advanceLc_cases (v : BitVec 19) (s : State) :
    (lcNeedFetch s.lc = true ∧ ∃ t,
      t = startRead { s with
        lc := lcWithNeedFetch (lcStep s.lc) false
        vma := ((lcCount s.lc).extractLsb' 2 24 : BitVec 24).setWidth 32 } ∧
      advanceLc v s =
        (v, if lcAtWordStart (lcStep s.lc) then { t with lc := lcWithNeedFetch t.lc true } else t)) ∨
    (lcNeedFetch s.lc = false ∧
      advanceLc v s =
        (v ||| 2, { s with
          lc := if lcAtWordStart (lcStep s.lc) then lcWithNeedFetch (lcStep s.lc) true else lcStep s.lc })) := by
  unfold advanceLc
  cases h : lcNeedFetch s.lc
  · refine .inr ⟨rfl, ?_⟩
    cases hn : lcAtWordStart (lcStep s.lc) <;> simp [hn]
  · refine .inl ⟨rfl, _, rfl, ?_⟩
    simp

/-- Everything a pop of a return address can do. -/
theorem popReturn_cases (s : State) :
    ((spcTop s).getLsbD 14 = false ∧ popReturn s = ((spcTop s).extractLsb' 0 14, spcDrop s)) ∨
    ((spcTop s).getLsbD 14 = true ∧
      popReturn s = ((advanceLc (spcTop s) (spcDrop s)).1.extractLsb' 0 14, (advanceLc (spcTop s) (spcDrop s)).2)) := by
  unfold popReturn
  cases h : (spcTop s).getLsbD 14
  · exact .inl ⟨rfl, by simp only [h, Bool.false_eq_true, if_false]⟩
  · exact .inr ⟨rfl, by simp only [h, if_true]⟩

/-! ### Any instruction -/

/-- Every meaning but the NOP's is the execution of the word's fields. -/
theorem exec_eq_runMicro (i : Instr) (s : State) (h : ∀ b b', i ≠ .nop b b') :
    exec i s = .next (runMicro i.micro s) := by
  cases i with
  | nop b b' => exact absurd rfl (h b b')
  | _ => rfl

/-- The NOP changes nothing. -/
theorem exec_nop (b b' : Bool) (s : State) : exec (.nop b b') s = .next s := rfl

end Sys2Proof.Machine
end

