-- ==== Sys2Proof/Laws/Frames.lean ====
section
/-! SUPPORT. For each shared operation that writes several fields, what it leaves alone: `xFrame s t` says that `t` is `s`
but for the fields listed. -/

namespace Sys2Proof.Machine

/-- What a memory cycle or an LC advance may change. -/
def cycleFrame (s t : State) : Prop :=
  t = { s with
    aMem := t.aMem, isr := t.isr, interruptPending := t.interruptPending, pages := t.pages, mem := t.mem,
    promEnabled := t.promEnabled, devAnswers := t.devAnswers, devLog := t.devLog, freeCount := t.freeCount,
    pollFast := t.pollFast, pollSlow := t.pollSlow, cache := t.cache, accessFault := t.accessFault,
    writeFault := t.writeFault, pageFault := t.pageFault, opc := t.opc, newMd := t.newMd,
    newMdDelay := t.newMdDelay, lc := t.lc, vma := t.vma }

theorem cycleFrame.refl (s : State) : cycleFrame s s := rfl

theorem cycleFrame.trans {s t u : State} (h : cycleFrame s t) (h' : cycleFrame t u) : cycleFrame s u := by
  unfold cycleFrame at *
  rw [h'] at *
  rw [h]

/-- What a return through the SPC stack may change. -/
def popFrame (s t : State) : Prop :=
  t = { s with
    aMem := t.aMem, isr := t.isr, interruptPending := t.interruptPending, pages := t.pages, mem := t.mem,
    promEnabled := t.promEnabled, devAnswers := t.devAnswers, devLog := t.devLog, freeCount := t.freeCount,
    pollFast := t.pollFast, pollSlow := t.pollSlow, cache := t.cache, accessFault := t.accessFault,
    writeFault := t.writeFault, pageFault := t.pageFault, opc := t.opc, newMd := t.newMd,
    newMdDelay := t.newMdDelay, lc := t.lc, vma := t.vma, spcPtr := t.spcPtr, uPc := t.uPc }

theorem popFrame.refl (s : State) : popFrame s s := rfl

theorem popFrame.trans {s t u : State} (h : popFrame s t) (h' : popFrame t u) : popFrame s u := by
  unfold popFrame at *
  rw [h'] at *
  rw [h]

/-- What a transfer or a dispatch may change. -/
def controlFrame (s t : State) : Prop :=
  t = { s with
    aMem := t.aMem, isr := t.isr, interruptPending := t.interruptPending, pages := t.pages, mem := t.mem,
    promEnabled := t.promEnabled, devAnswers := t.devAnswers, devLog := t.devLog, freeCount := t.freeCount,
    pollFast := t.pollFast, pollSlow := t.pollSlow, cache := t.cache, accessFault := t.accessFault,
    writeFault := t.writeFault, pageFault := t.pageFault, opc := t.opc, newMd := t.newMd,
    newMdDelay := t.newMdDelay, lc := t.lc, vma := t.vma, spcPtr := t.spcPtr, uPc := t.uPc, spc := t.spc,
    noExecNext := t.noExecNext, dispatchConstant := t.dispatchConstant }

theorem controlFrame.refl (s : State) : controlFrame s s := rfl

theorem controlFrame.trans {s t u : State} (h : controlFrame s t) (h' : controlFrame t u) : controlFrame s u := by
  unfold controlFrame at *
  rw [h'] at *
  rw [h]

/-- What the read of an M-source may change. -/
def sourceFrame (s t : State) : Prop :=
  t = { s with
    freeCount := t.freeCount, cache := t.cache, spcPtr := t.spcPtr, pdlPtr := t.pdlPtr }

theorem sourceFrame.refl (s : State) : sourceFrame s s := rfl

theorem sourceFrame.trans {s t u : State} (h : sourceFrame s t) (h' : sourceFrame t u) : sourceFrame s u := by
  unfold sourceFrame at *
  rw [h'] at *
  rw [h]

/-- What the write of a destination may change. -/
def destFrame (s t : State) : Prop :=
  t = { s with
    aMem := t.aMem, isr := t.isr, interruptPending := t.interruptPending, pages := t.pages, mem := t.mem,
    promEnabled := t.promEnabled, devAnswers := t.devAnswers, devLog := t.devLog, freeCount := t.freeCount,
    pollFast := t.pollFast, pollSlow := t.pollSlow, cache := t.cache, accessFault := t.accessFault,
    writeFault := t.writeFault, pageFault := t.pageFault, opc := t.opc, newMd := t.newMd,
    newMdDelay := t.newMdDelay, lc := t.lc, vma := t.vma, mMem := t.mMem, pdl := t.pdl, pdlPtr := t.pdlPtr,
    pdlIndex := t.pdlIndex, spc := t.spc, spcPtr := t.spcPtr, oaLo := t.oaLo, oaLoSet := t.oaLoSet,
    oaHi := t.oaHi, oaHiSet := t.oaHiSet, md := t.md, l1 := t.l1, l2 := t.l2 }

theorem destFrame.refl (s : State) : destFrame s s := rfl

theorem destFrame.trans {s t u : State} (h : destFrame s t) (h' : destFrame t u) : destFrame s u := by
  unfold destFrame at *
  rw [h'] at *
  rw [h]

theorem deviceFrame.to_cycleFrame {s t : State} (h : deviceFrame s t) : cycleFrame s t := by
  unfold deviceFrame at h
  unfold cycleFrame
  rw [h]

theorem cycleFrame.to_popFrame {s t : State} (h : cycleFrame s t) : popFrame s t := by
  unfold cycleFrame at h
  unfold popFrame
  rw [h]

theorem popFrame.to_controlFrame {s t : State} (h : popFrame s t) : controlFrame s t := by
  unfold popFrame at h
  unfold controlFrame
  rw [h]

theorem cycleFrame.to_destFrame {s t : State} (h : cycleFrame s t) : destFrame s t := by
  unfold cycleFrame at h
  unfold destFrame
  rw [h]

/-! ### Memory cycles, advance, return -/

theorem noteWalk_frame (va : BitVec 24) (s : State) : cycleFrame s (noteWalk va s) := by
  rw [noteWalk_eq]
  rfl

theorem cycleStart_frame (va : BitVec 24) (s : State) : cycleFrame s (noteWalk va (clearFaults s)) := by
  rw [noteWalk_eq]
  rfl

theorem raiseFault_frame (f : MemFault) (p : Ppn) (s : State) : cycleFrame s (raiseFault f p s) := by cases f <;> rfl

theorem startRead_frame (s : State) : cycleFrame s (startRead s) := by
  rcases startRead_cases s with ⟨t, h, e⟩ | ⟨v, t, h, e⟩ <;> rw [e] <;>
    rcases memRead_cases (cycleAddress s) s with ⟨_, e2⟩ | ⟨_, e2⟩ <;> rw [e2] at h
  · rw [Prod.mk.injEq] at h
    rw [← h.2]
    exact (cycleStart_frame _ _).trans (raiseFault_frame _ _ _)
  · simp at h
  · simp at h
  · rw [Prod.mk.injEq] at h
    rw [← h.2]
    exact ((cycleStart_frame _ _).trans (physRead_frame _ _ _ _).to_cycleFrame).trans rfl

theorem startWrite_frame (s : State) : cycleFrame s (startWrite s) := by
  unfold startWrite
  rcases memWrite_cases (cycleAddress s) s.md s with ⟨_, e⟩ | ⟨_, _, e⟩ | ⟨_, _, e⟩ <;> rw [e]
  · exact (cycleStart_frame _ _).trans (raiseFault_frame _ _ _)
  · exact (cycleStart_frame _ _).trans (raiseFault_frame _ _ _)
  · exact (cycleStart_frame _ _).trans (physWrite_frame _ _ _ _ _).to_cycleFrame

theorem advanceLc_frame (v : BitVec 19) (s : State) : cycleFrame s (advanceLc v s).2 := by
  rcases advanceLc_cases v s with ⟨_, t, ht, e⟩ | ⟨_, e⟩ <;> rw [e]
  · have h : cycleFrame s t := by
      rw [ht]
      exact cycleFrame.trans (t := { s with
        lc := lcWithNeedFetch (lcStep s.lc) false
        vma := ((lcCount s.lc).extractLsb' 2 24 : BitVec 24).setWidth 32 }) rfl (startRead_frame _)
    dsimp only
    split
    · exact h.trans rfl
    · exact h
  · rfl

theorem popReturn_frame (s : State) : popFrame s (popReturn s).2 := by
  rcases popReturn_cases s with ⟨_, e⟩ | ⟨_, e⟩ <;> rw [e]
  · rfl
  · exact popFrame.trans (t := spcDrop s) rfl (advanceLc_frame _ _).to_popFrame

theorem popjIf_frame (popj : Bool) (s : State) : popFrame s (popjIf popj s) := by
  cases popj
  · rfl
  · exact (popReturn_frame s).trans rfl

/-! ### Sources and destinations -/

theorem readM_frame (src : MSrc) (s : State) : sourceFrame s (readM src s).2 := by
  cases src with
  | m a => rfl
  | fs f =>
    cases f
    case mapMd =>
      simp only [readM, readSource]
      rw [noteWalk_eq]
      rfl
    all_goals rfl

/-- A map write changes the two maps, the cache and the pages only. -/
theorem writeMap_eq (s : State) :
    writeMap s = { s with
      l1 := (writeMap s).l1, l2 := (writeMap s).l2, cache := (writeMap s).cache, pages := (writeMap s).pages } := by
  unfold writeMap writeLevel2 writeLevel1 ensurePage
  split <;> split <;> (try split) <;> rfl

theorem writeMap_frame (s : State) : destFrame s (writeMap s) := by
  rw [writeMap_eq]
  rfl

theorem functionalDest_frame (f : FDest) (out : Word) (s : State) : destFrame s (functionalDest f out s) := by
  cases f
  case vmaStartRead => exact destFrame.trans (t := { s with vma := out }) rfl (startRead_frame _).to_destFrame
  case vmaStartWrite => exact destFrame.trans (t := { s with vma := out }) rfl (startWrite_frame _).to_destFrame
  case vmaWriteMap => exact destFrame.trans (t := { s with vma := out }) rfl (writeMap_frame _)
  case mdStartRead => exact destFrame.trans (t := { s with md := out }) rfl (startRead_frame _).to_destFrame
  case mdStartWrite => exact destFrame.trans (t := { s with md := out }) rfl (startWrite_frame _).to_destFrame
  case mdWriteMap => exact destFrame.trans (t := { s with md := out }) rfl (writeMap_frame _)
  all_goals rfl

theorem writeDest_frame (d : Dest) (out : Word) (s : State) : destFrame s (writeDest d out s) := by
  cases d with
  | a _ _ => rfl
  | fn f m => exact (functionalDest_frame f out s).trans rfl
  | reserved _ m => rfl

/-- The writes of an ALU or BYTE word: Q, then a destination; a BYTE word leaves Q. -/
theorem busWrites_frame (op : BusOp) (d : Dest) (m : Word) (s : State) :
    ∃ q, destFrame { s with q := q } (busWrites op d m s) ∧ ∀ b, op = .byte b → q = s.q := by
  unfold busWrites
  cases hb : busValue op m s with
  | none => exact ⟨s.q, rfl, fun _ _ => rfl⟩
  | some r =>
    refine ⟨r.2, writeDest_frame _ _ _, ?_⟩
    rintro b rfl
    simp only [busValue] at hb
    revert hb
    cases byteFunction b.fn (bytePosition b.bits s) b.bits.widm1 m (readA b.bits.asrc s) with
    | none => simp
    | some v =>
      simp only [Option.some.injEq]
      rintro rfl
      rfl

/-! ### Transfers -/

theorem resolveJump_frame (target : MicroPc) (r p n take : Bool) (s : State) :
    controlFrame s (resolveJump target r p n take none s) := by
  unfold resolveJump
  extract_lets s1 s2 pop
  have h1 : controlFrame s s1 := by
    simp only [s1]
    split <;> rfl
  have h2 : controlFrame s1 s2 := rfl
  have h3 : controlFrame s2 pop.2 := by
    simp only [pop]
    split
    · exact (popReturn_frame _).to_controlFrame
    · rfl
  have h := (h1.trans h2).trans h3
  split
  · exact h.trans rfl
  · exact h

theorem finishDispatch_frame (popj : Bool) (kind : DispKind) (b : DispBits) (m : Word) (s : State) :
    controlFrame s (finishDispatch popj kind b m s) := by
  unfold finishDispatch
  extract_lets e target n p r s1 s2 s3 s4
  have h1 : controlFrame s s1 := by
    simp only [s1]
    split
    · exact (noteWalk_frame _ _).to_popFrame.to_controlFrame
    · rfl
  have h2 : controlFrame s1 s2 := rfl
  have h3 : controlFrame s2 s3 := by
    simp only [s3]
    split <;> rfl
  have h4 : controlFrame s3 s4 := by
    simp only [s4]
    split
    · exact (advanceLc_frame _ _).to_popFrame.to_controlFrame
    · rfl
  have h := ((h1.trans h2).trans h3).trans h4
  clear_value s4
  split
  · have h5 : controlFrame s4 { s4 with noExecNext := n || s4.noExecNext } := rfl
    exact (h.trans h5).trans (popjIf_frame _ _).to_controlFrame
  · exact h.trans (resolveJump_frame _ _ _ _ _ _)

/-- A self-write happens before the pop, and nothing in a transfer reads the microcode store. -/
theorem resolveJump_selfWrite (target : MicroPc) (r p n take : Bool) (w : Microword) (s : State) :
    resolveJump target r p n take (some w) s =
      resolveJump target r p n take none
        { s with ucode := if p && r then s.ucode.set target.toNat w else s.ucode } := by
  unfold resolveJump
  cases p <;> cases r <;> cases take <;> rfl

theorem finishJump_frame (popj : Bool) (op : JumpOp) (m : Word) (s : State) :
    controlFrame
      { s with
        ucode := if op.p && op.r then s.ucode.set op.bits.jaddr.toNat (selfWriteWord (readA op.bits.asrc s) m)
          else s.ucode
        run := if op.misc = .halt then false else s.run }
      (finishJump popj op m s) := by
  unfold finishJump
  extract_lets a take s1 s2
  have h1 : controlFrame { s with
      ucode := if op.p && op.r then s.ucode.set op.bits.jaddr.toNat (selfWriteWord a m) else s.ucode } s2 := by
    simp only [s2, s1, resolveJump_selfWrite]
    exact (resolveJump_frame _ _ _ _ _ _).trans (popjIf_frame _ _).to_controlFrame
  clear_value s2
  unfold controlFrame at *
  cases op.misc <;> simp only [beq_iff_eq, reduceCtorEq, if_true, if_false] <;> (conv_lhs => rw [h1])

/-! ### Before execution -/

/-- The delayed load, whatever the delay. -/
theorem delayedMdLoad_eq (s : State) :
    delayedMdLoad s = { s with
      md := if s.newMdDelay = 1 then s.newMd else s.md
      newMdDelay := if s.newMdDelay = 2 then 1 else 0 } := by
  unfold delayedMdLoad
  rcases hd : s.newMdDelay with ⟨n, hn⟩
  have : n = 0 ∨ n = 1 ∨ n = 2 := by omega
  rcases this with rfl | rfl | rfl
  · have : s.newMdDelay = 0 := hd
    simp only [← this]
    cases s
    simp_all
  · simp
  · simp

end Sys2Proof.Machine
end

