-- ==== Sys2Proof/Laws/PerInstr.lean ====
section
/-! SUPPORT. One family of lemmas over all instructions: the word an instruction is encoded to carries the bits of
its row of `spec/opcode_table.json`. -/

namespace Sys2Proof.Laws

/-- A fixed field of an opcode-table row: `len` bits from bit `lo` on hold `val`. -/
structure RowField where
  lo : Nat
  len : Nat
  val : Nat
deriving DecidableEq, Repr

/-- The word has the field. -/
def RowField.holds (f : RowField) (w : Microword) : Prop := w.extractLsb' f.lo f.len = BitVec.ofNat f.len f.val

/-- The fixed fields of each row, written out from its `match` and `mask`. -/
def rowFields : Instr → List RowField
  | .nop _ _ => [⟨0, 12, 0⟩, ⟨13, 34, 0⟩]
  | .aluSetz _ _ _ _ _ => [⟨3, 6, 0⟩, ⟨43, 2, 0⟩]
  | .aluAnd _ _ _ _ _ => [⟨3, 6, 1⟩, ⟨43, 2, 0⟩]
  | .aluAndca _ _ _ _ _ => [⟨3, 6, 2⟩, ⟨43, 2, 0⟩]
  | .aluSetm _ _ _ _ _ => [⟨3, 6, 3⟩, ⟨43, 2, 0⟩]
  | .aluAndcm _ _ _ _ _ => [⟨3, 6, 4⟩, ⟨43, 2, 0⟩]
  | .aluSeta _ _ _ _ _ => [⟨3, 6, 5⟩, ⟨43, 2, 0⟩]
  | .aluXor _ _ _ _ _ => [⟨3, 6, 6⟩, ⟨43, 2, 0⟩]
  | .aluIor _ _ _ _ _ => [⟨3, 6, 7⟩, ⟨43, 2, 0⟩]
  | .aluAndcb _ _ _ _ _ => [⟨3, 6, 8⟩, ⟨43, 2, 0⟩]
  | .aluEqv _ _ _ _ _ => [⟨3, 6, 9⟩, ⟨43, 2, 0⟩]
  | .aluSetca _ _ _ _ _ => [⟨3, 6, 10⟩, ⟨43, 2, 0⟩]
  | .aluOrca _ _ _ _ _ => [⟨3, 6, 11⟩, ⟨43, 2, 0⟩]
  | .aluSetcm _ _ _ _ _ => [⟨3, 6, 12⟩, ⟨43, 2, 0⟩]
  | .aluOrcm _ _ _ _ _ => [⟨3, 6, 13⟩, ⟨43, 2, 0⟩]
  | .aluOrcb _ _ _ _ _ => [⟨3, 6, 14⟩, ⟨43, 2, 0⟩]
  | .aluSeto _ _ _ _ _ => [⟨3, 6, 15⟩, ⟨43, 2, 0⟩]
  | .aluA20 _ _ _ _ _ => [⟨3, 6, 16⟩, ⟨43, 2, 0⟩]
  | .aluA21 _ _ _ _ _ => [⟨3, 6, 17⟩, ⟨43, 2, 0⟩]
  | .aluA22 _ _ _ _ _ => [⟨3, 6, 18⟩, ⟨43, 2, 0⟩]
  | .aluA23 _ _ _ _ _ => [⟨3, 6, 19⟩, ⟨43, 2, 0⟩]
  | .aluA24 _ _ _ _ _ => [⟨3, 6, 20⟩, ⟨43, 2, 0⟩]
  | .aluA25 _ _ _ _ _ => [⟨3, 6, 21⟩, ⟨43, 2, 0⟩]
  | .aluSub _ _ _ _ _ => [⟨3, 6, 22⟩, ⟨43, 2, 0⟩]
  | .aluA27 _ _ _ _ _ => [⟨3, 6, 23⟩, ⟨43, 2, 0⟩]
  | .aluA30 _ _ _ _ _ => [⟨3, 6, 24⟩, ⟨43, 2, 0⟩]
  | .aluAdd _ _ _ _ _ => [⟨3, 6, 25⟩, ⟨43, 2, 0⟩]
  | .aluA32 _ _ _ _ _ => [⟨3, 6, 26⟩, ⟨43, 2, 0⟩]
  | .aluA33 _ _ _ _ _ => [⟨3, 6, 27⟩, ⟨43, 2, 0⟩]
  | .aluIncm _ _ _ _ _ => [⟨3, 6, 28⟩, ⟨43, 2, 0⟩]
  | .aluA35 _ _ _ _ _ => [⟨3, 6, 29⟩, ⟨43, 2, 0⟩]
  | .aluA36 _ _ _ _ _ => [⟨3, 6, 30⟩, ⟨43, 2, 0⟩]
  | .aluLshm _ _ _ _ _ => [⟨3, 6, 31⟩, ⟨43, 2, 0⟩]
  | .aluMul _ _ _ _ _ => [⟨3, 6, 32⟩, ⟨43, 2, 0⟩]
  | .aluDiv _ _ _ _ _ => [⟨3, 6, 33⟩, ⟨43, 2, 0⟩]
  | .aluUndef42 _ _ _ _ _ => [⟨3, 6, 34⟩, ⟨43, 2, 0⟩]
  | .aluUndef43 _ _ _ _ _ => [⟨3, 6, 35⟩, ⟨43, 2, 0⟩]
  | .aluUndef44 _ _ _ _ _ => [⟨3, 6, 36⟩, ⟨43, 2, 0⟩]
  | .aluDivrc _ _ _ _ _ => [⟨3, 6, 37⟩, ⟨43, 2, 0⟩]
  | .aluUndef46 _ _ _ _ _ => [⟨3, 6, 38⟩, ⟨43, 2, 0⟩]
  | .aluUndef47 _ _ _ _ _ => [⟨3, 6, 39⟩, ⟨43, 2, 0⟩]
  | .aluUndef50 _ _ _ _ _ => [⟨3, 6, 40⟩, ⟨43, 2, 0⟩]
  | .aluDivfs _ _ _ _ _ => [⟨3, 6, 41⟩, ⟨43, 2, 0⟩]
  | .aluUndef52 _ _ _ _ _ => [⟨3, 6, 42⟩, ⟨43, 2, 0⟩]
  | .aluUndef53 _ _ _ _ _ => [⟨3, 6, 43⟩, ⟨43, 2, 0⟩]
  | .aluUndef54 _ _ _ _ _ => [⟨3, 6, 44⟩, ⟨43, 2, 0⟩]
  | .aluUndef55 _ _ _ _ _ => [⟨3, 6, 45⟩, ⟨43, 2, 0⟩]
  | .aluUndef56 _ _ _ _ _ => [⟨3, 6, 46⟩, ⟨43, 2, 0⟩]
  | .aluUndef57 _ _ _ _ _ => [⟨3, 6, 47⟩, ⟨43, 2, 0⟩]
  | .aluUndef60 _ _ _ _ _ => [⟨3, 6, 48⟩, ⟨43, 2, 0⟩]
  | .aluUndef61 _ _ _ _ _ => [⟨3, 6, 49⟩, ⟨43, 2, 0⟩]
  | .aluUndef62 _ _ _ _ _ => [⟨3, 6, 50⟩, ⟨43, 2, 0⟩]
  | .aluUndef63 _ _ _ _ _ => [⟨3, 6, 51⟩, ⟨43, 2, 0⟩]
  | .aluUndef64 _ _ _ _ _ => [⟨3, 6, 52⟩, ⟨43, 2, 0⟩]
  | .aluUndef65 _ _ _ _ _ => [⟨3, 6, 53⟩, ⟨43, 2, 0⟩]
  | .aluUndef66 _ _ _ _ _ => [⟨3, 6, 54⟩, ⟨43, 2, 0⟩]
  | .aluUndef67 _ _ _ _ _ => [⟨3, 6, 55⟩, ⟨43, 2, 0⟩]
  | .aluUndef70 _ _ _ _ _ => [⟨3, 6, 56⟩, ⟨43, 2, 0⟩]
  | .aluUndef71 _ _ _ _ _ => [⟨3, 6, 57⟩, ⟨43, 2, 0⟩]
  | .aluUndef72 _ _ _ _ _ => [⟨3, 6, 58⟩, ⟨43, 2, 0⟩]
  | .aluUndef73 _ _ _ _ _ => [⟨3, 6, 59⟩, ⟨43, 2, 0⟩]
  | .aluUndef74 _ _ _ _ _ => [⟨3, 6, 60⟩, ⟨43, 2, 0⟩]
  | .aluUndef75 _ _ _ _ _ => [⟨3, 6, 61⟩, ⟨43, 2, 0⟩]
  | .aluUndef76 _ _ _ _ _ => [⟨3, 6, 62⟩, ⟨43, 2, 0⟩]
  | .aluUndef77 _ _ _ _ _ => [⟨3, 6, 63⟩, ⟨43, 2, 0⟩]
  | .obUndef _ _ _ _ _ => [⟨12, 2, 0⟩, ⟨43, 2, 0⟩]
  | .obAlu _ _ _ _ _ => [⟨12, 2, 1⟩, ⟨43, 2, 0⟩]
  | .obR1 _ _ _ _ _ => [⟨12, 2, 2⟩, ⟨43, 2, 0⟩]
  | .obL1 _ _ _ _ _ => [⟨12, 2, 3⟩, ⟨43, 2, 0⟩]
  | .qcNone _ _ _ _ _ => [⟨0, 2, 0⟩, ⟨43, 2, 0⟩]
  | .qcQl _ _ _ _ _ => [⟨0, 2, 1⟩, ⟨43, 2, 0⟩]
  | .qcQr _ _ _ _ _ => [⟨0, 2, 2⟩, ⟨43, 2, 0⟩]
  | .qcQload _ _ _ _ _ => [⟨0, 2, 3⟩, ⟨43, 2, 0⟩]
  | .jumpNever _ _ _ _ _ _ => [⟨0, 3, 0⟩, ⟨5, 1, 1⟩, ⟨43, 2, 1⟩]
  | .jumpLt _ _ _ _ _ _ => [⟨0, 3, 1⟩, ⟨5, 1, 1⟩, ⟨43, 2, 1⟩]
  | .jumpLe _ _ _ _ _ _ => [⟨0, 3, 2⟩, ⟨5, 1, 1⟩, ⟨43, 2, 1⟩]
  | .jumpEq _ _ _ _ _ _ => [⟨0, 3, 3⟩, ⟨5, 1, 1⟩, ⟨43, 2, 1⟩]
  | .jumpPf _ _ _ _ _ _ => [⟨0, 3, 4⟩, ⟨5, 1, 1⟩, ⟨43, 2, 1⟩]
  | .jumpPfi _ _ _ _ _ _ => [⟨0, 3, 5⟩, ⟨5, 1, 1⟩, ⟨43, 2, 1⟩]
  | .jumpPfis _ _ _ _ _ _ => [⟨0, 3, 6⟩, ⟨5, 1, 1⟩, ⟨43, 2, 1⟩]
  | .jumpAlways _ _ _ _ _ _ => [⟨0, 3, 7⟩, ⟨5, 1, 1⟩, ⟨43, 2, 1⟩]
  | .jumpBit _ _ _ _ _ _ => [⟨5, 1, 0⟩, ⟨43, 2, 1⟩]
  | .jumpHalt _ _ _ _ _ => [⟨10, 2, 1⟩, ⟨43, 2, 1⟩]
  | .jumpWriteUcode _ _ _ _ => [⟨8, 2, 3⟩, ⟨43, 2, 1⟩]
  | .jumpMisc2 _ _ _ _ _ => [⟨10, 2, 2⟩, ⟨43, 2, 1⟩]
  | .jumpMisc3 _ _ _ _ _ => [⟨10, 2, 3⟩, ⟨43, 2, 1⟩]
  | .dispatch _ _ => [⟨10, 2, 0⟩, ⟨43, 2, 2⟩]
  | .dispatchMisc1 _ _ => [⟨10, 2, 1⟩, ⟨43, 2, 2⟩]
  | .dispatchWrite _ _ => [⟨10, 2, 2⟩, ⟨43, 2, 2⟩]
  | .dispatchPosmod _ _ => [⟨10, 2, 3⟩, ⟨43, 2, 2⟩]
  | .byteUndef _ _ _ => [⟨12, 2, 0⟩, ⟨43, 2, 3⟩]
  | .byteLdb _ _ _ => [⟨12, 2, 1⟩, ⟨43, 2, 3⟩]
  | .byteSel _ _ _ => [⟨12, 2, 2⟩, ⟨43, 2, 3⟩]
  | .byteDpb _ _ _ => [⟨12, 2, 3⟩, ⟨43, 2, 3⟩]
  | .popj _ _ _ => [⟨42, 1, 1⟩]
  | .msrcM _ _ _ _ => [⟨31, 1, 0⟩]
  | .msrcDispatchConstant _ _ _ => [⟨26, 6, 32⟩]
  | .msrcSpcPtrAndData _ _ _ => [⟨26, 6, 33⟩]
  | .msrcPdlPointer _ _ _ => [⟨26, 6, 34⟩]
  | .msrcPdlIndex _ _ _ => [⟨26, 6, 35⟩]
  | .msrcUndef04 _ _ _ => [⟨26, 6, 36⟩]
  | .msrcPdlBufferIndex _ _ _ => [⟨26, 6, 37⟩]
  | .msrcOpc _ _ _ => [⟨26, 6, 38⟩]
  | .msrcQ _ _ _ => [⟨26, 6, 39⟩]
  | .msrcVma _ _ _ => [⟨26, 6, 40⟩]
  | .msrcMapMd _ _ _ => [⟨26, 6, 41⟩]
  | .msrcMd _ _ _ => [⟨26, 6, 42⟩]
  | .msrcLc _ _ _ => [⟨26, 6, 43⟩]
  | .msrcSpcPtrAndDataPop _ _ _ => [⟨26, 6, 44⟩]
  | .msrcUndef15 _ _ _ => [⟨26, 6, 45⟩]
  | .msrcUndef16 _ _ _ => [⟨26, 6, 46⟩]
  | .msrcUndef17 _ _ _ => [⟨26, 6, 47⟩]
  | .msrcUndef20 _ _ _ => [⟨26, 6, 48⟩]
  | .msrcUndef21 _ _ _ => [⟨26, 6, 49⟩]
  | .msrcUndef22 _ _ _ => [⟨26, 6, 50⟩]
  | .msrcUndef23 _ _ _ => [⟨26, 6, 51⟩]
  | .msrcPdlBufferPointerPop _ _ _ => [⟨26, 6, 52⟩]
  | .msrcPdlBufferPointer _ _ _ => [⟨26, 6, 53⟩]
  | .msrcUndef26 _ _ _ => [⟨26, 6, 54⟩]
  | .msrcUndef27 _ _ _ => [⟨26, 6, 55⟩]
  | .msrcUndef30 _ _ _ => [⟨26, 6, 56⟩]
  | .msrcUndef31 _ _ _ => [⟨26, 6, 57⟩]
  | .msrcUndef32 _ _ _ => [⟨26, 6, 58⟩]
  | .msrcUndef33 _ _ _ => [⟨26, 6, 59⟩]
  | .msrcUndef34 _ _ _ => [⟨26, 6, 60⟩]
  | .msrcUndef35 _ _ _ => [⟨26, 6, 61⟩]
  | .msrcUndef36 _ _ _ => [⟨26, 6, 62⟩]
  | .msrcUndef37 _ _ _ => [⟨26, 6, 63⟩]
  | .destA _ _ _ _ => [⟨25, 1, 1⟩]
  | .destNone _ _ _ => [⟨19, 7, 0⟩]
  | .destLc _ _ _ => [⟨19, 7, 1⟩]
  | .destInterruptControl _ _ _ => [⟨19, 7, 2⟩]
  | .destUndef03 _ _ _ => [⟨19, 7, 3⟩]
  | .destUndef04 _ _ _ => [⟨19, 7, 4⟩]
  | .destUndef05 _ _ _ => [⟨19, 7, 5⟩]
  | .destUndef06 _ _ _ => [⟨19, 7, 6⟩]
  | .destUndef07 _ _ _ => [⟨19, 7, 7⟩]
  | .destPdlByPointer _ _ _ => [⟨19, 7, 8⟩]
  | .destPdlByPointerPush _ _ _ => [⟨19, 7, 9⟩]
  | .destPdlByIndex _ _ _ => [⟨19, 7, 10⟩]
  | .destPdlIndex _ _ _ => [⟨19, 7, 11⟩]
  | .destPdlPointer _ _ _ => [⟨19, 7, 12⟩]
  | .destSpcPush _ _ _ => [⟨19, 7, 13⟩]
  | .destOaLo _ _ _ => [⟨19, 7, 14⟩]
  | .destOaHi _ _ _ => [⟨19, 7, 15⟩]
  | .destVma _ _ _ => [⟨19, 7, 16⟩]
  | .destVmaStartRead _ _ _ => [⟨19, 7, 17⟩]
  | .destVmaStartWrite _ _ _ => [⟨19, 7, 18⟩]
  | .destVmaWriteMap _ _ _ => [⟨19, 7, 19⟩]
  | .destUndef24 _ _ _ => [⟨19, 7, 20⟩]
  | .destUndef25 _ _ _ => [⟨19, 7, 21⟩]
  | .destUndef26 _ _ _ => [⟨19, 7, 22⟩]
  | .destUndef27 _ _ _ => [⟨19, 7, 23⟩]
  | .destMd _ _ _ => [⟨19, 7, 24⟩]
  | .destMdStartRead _ _ _ => [⟨19, 7, 25⟩]
  | .destMdStartWrite _ _ _ => [⟨19, 7, 26⟩]
  | .destMdWriteMap _ _ _ => [⟨19, 7, 27⟩]
  | .destUndef34 _ _ _ => [⟨19, 7, 28⟩]
  | .destUndef35 _ _ _ => [⟨19, 7, 29⟩]
  | .destUndef36 _ _ _ => [⟨19, 7, 30⟩]
  | .destUndef37 _ _ _ => [⟨19, 7, 31⟩]
  | .destReserved _ _ _ _ => [⟨24, 2, 1⟩]

/-- The word of `i` matches the row of `i` in every fixed field. -/
def RowPattern.Statement (i : Instr) : Prop := ∀ f ∈ rowFields i, f.holds (encode i)

theorem RowField.holds_low (w : Micro) (lo len val : Nat) (h : lo + len ≤ 26)
    (hv : w.body.low.extractLsb' lo len = BitVec.ofNat len val) : RowField.holds ⟨lo, len, val⟩ w.pack := by
  show w.pack.extractLsb' lo len = _
  rw [Micro.pack_low w lo len h, hv]

theorem RowField.holds_src (w : Micro) (lo len val : Nat) (h : lo + len ≤ 6)
    (hv : w.head.src.pack.extractLsb' lo len = BitVec.ofNat len val) :
    RowField.holds ⟨26 + lo, len, val⟩ w.pack := by
  show w.pack.extractLsb' (26 + lo) len = _
  rw [Micro.pack_src w lo len h, hv]

theorem RowField.holds_cls (w : Micro) (val : Nat) (hv : w.body.cls = BitVec.ofNat 2 val) :
    RowField.holds ⟨43, 2, val⟩ w.pack := by
  show w.pack.extractLsb' 43 2 = _
  rw [Micro.pack_cls, hv]

theorem RowField.holds_dest (w : Micro) (op : BusOp) (d : Dest) (lo len val : Nat) (hb : w.body = .bus op d)
    (h : lo + len ≤ 12) (hv : d.pack.extractLsb' lo len = BitVec.ofNat len val) :
    RowField.holds ⟨14 + lo, len, val⟩ w.pack := by
  refine RowField.holds_low w (14 + lo) len val (by omega) ?_
  rw [hb, Body.bus_dest op d lo len, hv]

theorem rowFields_one {w : Microword} {f : RowField} (hf : f.holds w) : ∀ g ∈ [f], g.holds w := by
  intro g hg
  rw [List.mem_singleton] at hg
  exact hg ▸ hf

theorem rowFields_two {w : Microword} {f f' : RowField} (hf : f.holds w) (hf' : f'.holds w) :
    ∀ g ∈ [f, f'], g.holds w := by
  intro g hg
  rcases List.mem_cons.mp hg with h | h
  · exact h ▸ hf
  · exact rowFields_one hf' g h

theorem rowFields_three {w : Microword} {f f' f'' : RowField} (hf : f.holds w) (hf' : f'.holds w)
    (hf'' : f''.holds w) : ∀ g ∈ [f, f', f''], g.holds w := by
  intro g hg
  rcases List.mem_cons.mp hg with h | h
  · exact h ▸ hf
  · exact rowFields_two hf' hf'' g h

theorem RowPattern.nop (b47 b12 : Bool) : RowPattern.Statement (.nop b47 b12) := by
  cases b47 <;> cases b12 <;> (unfold RowPattern.Statement RowField.holds; decide)

theorem RowPattern.aluSetz (h : Head) (d : Dest) (b : AluBits) (ob : OutSel) (qc : QCtl) :
    RowPattern.Statement (.aluSetz h d b ob qc) :=
  rowFields_two (RowField.holds_low _ 3 6 0 (by omega) (Body.alu_fn _ _)) (RowField.holds_cls _ 0 rfl)

theorem RowPattern.aluAnd (h : Head) (d : Dest) (b : AluBits) (ob : OutSel) (qc : QCtl) :
    RowPattern.Statement (.aluAnd h d b ob qc) :=
  rowFields_two (RowField.holds_low _ 3 6 1 (by omega) (Body.alu_fn _ _)) (RowField.holds_cls _ 0 rfl)

theorem RowPattern.aluAndca (h : Head) (d : Dest) (b : AluBits) (ob : OutSel) (qc : QCtl) :
    RowPattern.Statement (.aluAndca h d b ob qc) :=
  rowFields_two (RowField.holds_low _ 3 6 2 (by omega) (Body.alu_fn _ _)) (RowField.holds_cls _ 0 rfl)

theorem RowPattern.aluSetm (h : Head) (d : Dest) (b : AluBits) (ob : OutSel) (qc : QCtl) :
    RowPattern.Statement (.aluSetm h d b ob qc) :=
  rowFields_two (RowField.holds_low _ 3 6 3 (by omega) (Body.alu_fn _ _)) (RowField.holds_cls _ 0 rfl)

theorem RowPattern.aluAndcm (h : Head) (d : Dest) (b : AluBits) (ob : OutSel) (qc : QCtl) :
    RowPattern.Statement (.aluAndcm h d b ob qc) :=
  rowFields_two (RowField.holds_low _ 3 6 4 (by omega) (Body.alu_fn _ _)) (RowField.holds_cls _ 0 rfl)

theorem RowPattern.aluSeta (h : Head) (d : Dest) (b : AluBits) (ob : OutSel) (qc : QCtl) :
    RowPattern.Statement (.aluSeta h d b ob qc) :=
  rowFields_two (RowField.holds_low _ 3 6 5 (by omega) (Body.alu_fn _ _)) (RowField.holds_cls _ 0 rfl)

theorem RowPattern.aluXor (h : Head) (d : Dest) (b : AluBits) (ob : OutSel) (qc : QCtl) :
    RowPattern.Statement (.aluXor h d b ob qc) :=
  rowFields_two (RowField.holds_low _ 3 6 6 (by omega) (Body.alu_fn _ _)) (RowField.holds_cls _ 0 rfl)

theorem RowPattern.aluIor (h : Head) (d : Dest) (b : AluBits) (ob : OutSel) (qc : QCtl) :
    RowPattern.Statement (.aluIor h d b ob qc) :=
  rowFields_two (RowField.holds_low _ 3 6 7 (by omega) (Body.alu_fn _ _)) (RowField.holds_cls _ 0 rfl)

theorem RowPattern.aluAndcb (h : Head) (d : Dest) (b : AluBits) (ob : OutSel) (qc : QCtl) :
    RowPattern.Statement (.aluAndcb h d b ob qc) :=
  rowFields_two (RowField.holds_low _ 3 6 8 (by omega) (Body.alu_fn _ _)) (RowField.holds_cls _ 0 rfl)

theorem RowPattern.aluEqv (h : Head) (d : Dest) (b : AluBits) (ob : OutSel) (qc : QCtl) :
    RowPattern.Statement (.aluEqv h d b ob qc) :=
  rowFields_two (RowField.holds_low _ 3 6 9 (by omega) (Body.alu_fn _ _)) (RowField.holds_cls _ 0 rfl)

theorem RowPattern.aluSetca (h : Head) (d : Dest) (b : AluBits) (ob : OutSel) (qc : QCtl) :
    RowPattern.Statement (.aluSetca h d b ob qc) :=
  rowFields_two (RowField.holds_low _ 3 6 10 (by omega) (Body.alu_fn _ _)) (RowField.holds_cls _ 0 rfl)

theorem RowPattern.aluOrca (h : Head) (d : Dest) (b : AluBits) (ob : OutSel) (qc : QCtl) :
    RowPattern.Statement (.aluOrca h d b ob qc) :=
  rowFields_two (RowField.holds_low _ 3 6 11 (by omega) (Body.alu_fn _ _)) (RowField.holds_cls _ 0 rfl)

theorem RowPattern.aluSetcm (h : Head) (d : Dest) (b : AluBits) (ob : OutSel) (qc : QCtl) :
    RowPattern.Statement (.aluSetcm h d b ob qc) :=
  rowFields_two (RowField.holds_low _ 3 6 12 (by omega) (Body.alu_fn _ _)) (RowField.holds_cls _ 0 rfl)

theorem RowPattern.aluOrcm (h : Head) (d : Dest) (b : AluBits) (ob : OutSel) (qc : QCtl) :
    RowPattern.Statement (.aluOrcm h d b ob qc) :=
  rowFields_two (RowField.holds_low _ 3 6 13 (by omega) (Body.alu_fn _ _)) (RowField.holds_cls _ 0 rfl)

theorem RowPattern.aluOrcb (h : Head) (d : Dest) (b : AluBits) (ob : OutSel) (qc : QCtl) :
    RowPattern.Statement (.aluOrcb h d b ob qc) :=
  rowFields_two (RowField.holds_low _ 3 6 14 (by omega) (Body.alu_fn _ _)) (RowField.holds_cls _ 0 rfl)

theorem RowPattern.aluSeto (h : Head) (d : Dest) (b : AluBits) (ob : OutSel) (qc : QCtl) :
    RowPattern.Statement (.aluSeto h d b ob qc) :=
  rowFields_two (RowField.holds_low _ 3 6 15 (by omega) (Body.alu_fn _ _)) (RowField.holds_cls _ 0 rfl)

theorem RowPattern.aluA20 (h : Head) (d : Dest) (b : AluBits) (ob : OutSel) (qc : QCtl) :
    RowPattern.Statement (.aluA20 h d b ob qc) :=
  rowFields_two (RowField.holds_low _ 3 6 16 (by omega) (Body.alu_fn _ _)) (RowField.holds_cls _ 0 rfl)

theorem RowPattern.aluA21 (h : Head) (d : Dest) (b : AluBits) (ob : OutSel) (qc : QCtl) :
    RowPattern.Statement (.aluA21 h d b ob qc) :=
  rowFields_two (RowField.holds_low _ 3 6 17 (by omega) (Body.alu_fn _ _)) (RowField.holds_cls _ 0 rfl)

theorem RowPattern.aluA22 (h : Head) (d : Dest) (b : AluBits) (ob : OutSel) (qc : QCtl) :
    RowPattern.Statement (.aluA22 h d b ob qc) :=
  rowFields_two (RowField.holds_low _ 3 6 18 (by omega) (Body.alu_fn _ _)) (RowField.holds_cls _ 0 rfl)

theorem RowPattern.aluA23 (h : Head) (d : Dest) (b : AluBits) (ob : OutSel) (qc : QCtl) :
    RowPattern.Statement (.aluA23 h d b ob qc) :=
  rowFields_two (RowField.holds_low _ 3 6 19 (by omega) (Body.alu_fn _ _)) (RowField.holds_cls _ 0 rfl)

theorem RowPattern.aluA24 (h : Head) (d : Dest) (b : AluBits) (ob : OutSel) (qc : QCtl) :
    RowPattern.Statement (.aluA24 h d b ob qc) :=
  rowFields_two (RowField.holds_low _ 3 6 20 (by omega) (Body.alu_fn _ _)) (RowField.holds_cls _ 0 rfl)

theorem RowPattern.aluA25 (h : Head) (d : Dest) (b : AluBits) (ob : OutSel) (qc : QCtl) :
    RowPattern.Statement (.aluA25 h d b ob qc) :=
  rowFields_two (RowField.holds_low _ 3 6 21 (by omega) (Body.alu_fn _ _)) (RowField.holds_cls _ 0 rfl)

theorem RowPattern.aluSub (h : Head) (d : Dest) (b : AluBits) (ob : OutSel) (qc : QCtl) :
    RowPattern.Statement (.aluSub h d b ob qc) :=
  rowFields_two (RowField.holds_low _ 3 6 22 (by omega) (Body.alu_fn _ _)) (RowField.holds_cls _ 0 rfl)

theorem RowPattern.aluA27 (h : Head) (d : Dest) (b : AluBits) (ob : OutSel) (qc : QCtl) :
    RowPattern.Statement (.aluA27 h d b ob qc) :=
  rowFields_two (RowField.holds_low _ 3 6 23 (by omega) (Body.alu_fn _ _)) (RowField.holds_cls _ 0 rfl)

theorem RowPattern.aluA30 (h : Head) (d : Dest) (b : AluBits) (ob : OutSel) (qc : QCtl) :
    RowPattern.Statement (.aluA30 h d b ob qc) :=
  rowFields_two (RowField.holds_low _ 3 6 24 (by omega) (Body.alu_fn _ _)) (RowField.holds_cls _ 0 rfl)

theorem RowPattern.aluAdd (h : Head) (d : Dest) (b : AluBits) (ob : OutSel) (qc : QCtl) :
    RowPattern.Statement (.aluAdd h d b ob qc) :=
  rowFields_two (RowField.holds_low _ 3 6 25 (by omega) (Body.alu_fn _ _)) (RowField.holds_cls _ 0 rfl)

theorem RowPattern.aluA32 (h : Head) (d : Dest) (b : AluBits) (ob : OutSel) (qc : QCtl) :
    RowPattern.Statement (.aluA32 h d b ob qc) :=
  rowFields_two (RowField.holds_low _ 3 6 26 (by omega) (Body.alu_fn _ _)) (RowField.holds_cls _ 0 rfl)

theorem RowPattern.aluA33 (h : Head) (d : Dest) (b : AluBits) (ob : OutSel) (qc : QCtl) :
    RowPattern.Statement (.aluA33 h d b ob qc) :=
  rowFields_two (RowField.holds_low _ 3 6 27 (by omega) (Body.alu_fn _ _)) (RowField.holds_cls _ 0 rfl)

theorem RowPattern.aluIncm (h : Head) (d : Dest) (b : AluBits) (ob : OutSel) (qc : QCtl) :
    RowPattern.Statement (.aluIncm h d b ob qc) :=
  rowFields_two (RowField.holds_low _ 3 6 28 (by omega) (Body.alu_fn _ _)) (RowField.holds_cls _ 0 rfl)

theorem RowPattern.aluA35 (h : Head) (d : Dest) (b : AluBits) (ob : OutSel) (qc : QCtl) :
    RowPattern.Statement (.aluA35 h d b ob qc) :=
  rowFields_two (RowField.holds_low _ 3 6 29 (by omega) (Body.alu_fn _ _)) (RowField.holds_cls _ 0 rfl)

theorem RowPattern.aluA36 (h : Head) (d : Dest) (b : AluBits) (ob : OutSel) (qc : QCtl) :
    RowPattern.Statement (.aluA36 h d b ob qc) :=
  rowFields_two (RowField.holds_low _ 3 6 30 (by omega) (Body.alu_fn _ _)) (RowField.holds_cls _ 0 rfl)

theorem RowPattern.aluLshm (h : Head) (d : Dest) (b : AluBits) (ob : OutSel) (qc : QCtl) :
    RowPattern.Statement (.aluLshm h d b ob qc) :=
  rowFields_two (RowField.holds_low _ 3 6 31 (by omega) (Body.alu_fn _ _)) (RowField.holds_cls _ 0 rfl)

theorem RowPattern.aluMul (h : Head) (d : Dest) (b : AluBits) (ob : OutSel) (qc : QCtl) :
    RowPattern.Statement (.aluMul h d b ob qc) :=
  rowFields_two (RowField.holds_low _ 3 6 32 (by omega) (Body.alu_fn _ _)) (RowField.holds_cls _ 0 rfl)

theorem RowPattern.aluDiv (h : Head) (d : Dest) (b : AluBits) (ob : OutSel) (qc : QCtl) :
    RowPattern.Statement (.aluDiv h d b ob qc) :=
  rowFields_two (RowField.holds_low _ 3 6 33 (by omega) (Body.alu_fn _ _)) (RowField.holds_cls _ 0 rfl)

theorem RowPattern.aluUndef42 (h : Head) (d : Dest) (b : AluBits) (ob : OutSel) (qc : QCtl) :
    RowPattern.Statement (.aluUndef42 h d b ob qc) :=
  rowFields_two (RowField.holds_low _ 3 6 34 (by omega) (Body.alu_fn _ _)) (RowField.holds_cls _ 0 rfl)

theorem RowPattern.aluUndef43 (h : Head) (d : Dest) (b : AluBits) (ob : OutSel) (qc : QCtl) :
    RowPattern.Statement (.aluUndef43 h d b ob qc) :=
  rowFields_two (RowField.holds_low _ 3 6 35 (by omega) (Body.alu_fn _ _)) (RowField.holds_cls _ 0 rfl)

theorem RowPattern.aluUndef44 (h : Head) (d : Dest) (b : AluBits) (ob : OutSel) (qc : QCtl) :
    RowPattern.Statement (.aluUndef44 h d b ob qc) :=
  rowFields_two (RowField.holds_low _ 3 6 36 (by omega) (Body.alu_fn _ _)) (RowField.holds_cls _ 0 rfl)

theorem RowPattern.aluDivrc (h : Head) (d : Dest) (b : AluBits) (ob : OutSel) (qc : QCtl) :
    RowPattern.Statement (.aluDivrc h d b ob qc) :=
  rowFields_two (RowField.holds_low _ 3 6 37 (by omega) (Body.alu_fn _ _)) (RowField.holds_cls _ 0 rfl)

theorem RowPattern.aluUndef46 (h : Head) (d : Dest) (b : AluBits) (ob : OutSel) (qc : QCtl) :
    RowPattern.Statement (.aluUndef46 h d b ob qc) :=
  rowFields_two (RowField.holds_low _ 3 6 38 (by omega) (Body.alu_fn _ _)) (RowField.holds_cls _ 0 rfl)

theorem RowPattern.aluUndef47 (h : Head) (d : Dest) (b : AluBits) (ob : OutSel) (qc : QCtl) :
    RowPattern.Statement (.aluUndef47 h d b ob qc) :=
  rowFields_two (RowField.holds_low _ 3 6 39 (by omega) (Body.alu_fn _ _)) (RowField.holds_cls _ 0 rfl)

theorem RowPattern.aluUndef50 (h : Head) (d : Dest) (b : AluBits) (ob : OutSel) (qc : QCtl) :
    RowPattern.Statement (.aluUndef50 h d b ob qc) :=
  rowFields_two (RowField.holds_low _ 3 6 40 (by omega) (Body.alu_fn _ _)) (RowField.holds_cls _ 0 rfl)

theorem RowPattern.aluDivfs (h : Head) (d : Dest) (b : AluBits) (ob : OutSel) (qc : QCtl) :
    RowPattern.Statement (.aluDivfs h d b ob qc) :=
  rowFields_two (RowField.holds_low _ 3 6 41 (by omega) (Body.alu_fn _ _)) (RowField.holds_cls _ 0 rfl)

theorem RowPattern.aluUndef52 (h : Head) (d : Dest) (b : AluBits) (ob : OutSel) (qc : QCtl) :
    RowPattern.Statement (.aluUndef52 h d b ob qc) :=
  rowFields_two (RowField.holds_low _ 3 6 42 (by omega) (Body.alu_fn _ _)) (RowField.holds_cls _ 0 rfl)

theorem RowPattern.aluUndef53 (h : Head) (d : Dest) (b : AluBits) (ob : OutSel) (qc : QCtl) :
    RowPattern.Statement (.aluUndef53 h d b ob qc) :=
  rowFields_two (RowField.holds_low _ 3 6 43 (by omega) (Body.alu_fn _ _)) (RowField.holds_cls _ 0 rfl)

theorem RowPattern.aluUndef54 (h : Head) (d : Dest) (b : AluBits) (ob : OutSel) (qc : QCtl) :
    RowPattern.Statement (.aluUndef54 h d b ob qc) :=
  rowFields_two (RowField.holds_low _ 3 6 44 (by omega) (Body.alu_fn _ _)) (RowField.holds_cls _ 0 rfl)

theorem RowPattern.aluUndef55 (h : Head) (d : Dest) (b : AluBits) (ob : OutSel) (qc : QCtl) :
    RowPattern.Statement (.aluUndef55 h d b ob qc) :=
  rowFields_two (RowField.holds_low _ 3 6 45 (by omega) (Body.alu_fn _ _)) (RowField.holds_cls _ 0 rfl)

theorem RowPattern.aluUndef56 (h : Head) (d : Dest) (b : AluBits) (ob : OutSel) (qc : QCtl) :
    RowPattern.Statement (.aluUndef56 h d b ob qc) :=
  rowFields_two (RowField.holds_low _ 3 6 46 (by omega) (Body.alu_fn _ _)) (RowField.holds_cls _ 0 rfl)

theorem RowPattern.aluUndef57 (h : Head) (d : Dest) (b : AluBits) (ob : OutSel) (qc : QCtl) :
    RowPattern.Statement (.aluUndef57 h d b ob qc) :=
  rowFields_two (RowField.holds_low _ 3 6 47 (by omega) (Body.alu_fn _ _)) (RowField.holds_cls _ 0 rfl)

theorem RowPattern.aluUndef60 (h : Head) (d : Dest) (b : AluBits) (ob : OutSel) (qc : QCtl) :
    RowPattern.Statement (.aluUndef60 h d b ob qc) :=
  rowFields_two (RowField.holds_low _ 3 6 48 (by omega) (Body.alu_fn _ _)) (RowField.holds_cls _ 0 rfl)

theorem RowPattern.aluUndef61 (h : Head) (d : Dest) (b : AluBits) (ob : OutSel) (qc : QCtl) :
    RowPattern.Statement (.aluUndef61 h d b ob qc) :=
  rowFields_two (RowField.holds_low _ 3 6 49 (by omega) (Body.alu_fn _ _)) (RowField.holds_cls _ 0 rfl)

theorem RowPattern.aluUndef62 (h : Head) (d : Dest) (b : AluBits) (ob : OutSel) (qc : QCtl) :
    RowPattern.Statement (.aluUndef62 h d b ob qc) :=
  rowFields_two (RowField.holds_low _ 3 6 50 (by omega) (Body.alu_fn _ _)) (RowField.holds_cls _ 0 rfl)

theorem RowPattern.aluUndef63 (h : Head) (d : Dest) (b : AluBits) (ob : OutSel) (qc : QCtl) :
    RowPattern.Statement (.aluUndef63 h d b ob qc) :=
  rowFields_two (RowField.holds_low _ 3 6 51 (by omega) (Body.alu_fn _ _)) (RowField.holds_cls _ 0 rfl)

theorem RowPattern.aluUndef64 (h : Head) (d : Dest) (b : AluBits) (ob : OutSel) (qc : QCtl) :
    RowPattern.Statement (.aluUndef64 h d b ob qc) :=
  rowFields_two (RowField.holds_low _ 3 6 52 (by omega) (Body.alu_fn _ _)) (RowField.holds_cls _ 0 rfl)

theorem RowPattern.aluUndef65 (h : Head) (d : Dest) (b : AluBits) (ob : OutSel) (qc : QCtl) :
    RowPattern.Statement (.aluUndef65 h d b ob qc) :=
  rowFields_two (RowField.holds_low _ 3 6 53 (by omega) (Body.alu_fn _ _)) (RowField.holds_cls _ 0 rfl)

theorem RowPattern.aluUndef66 (h : Head) (d : Dest) (b : AluBits) (ob : OutSel) (qc : QCtl) :
    RowPattern.Statement (.aluUndef66 h d b ob qc) :=
  rowFields_two (RowField.holds_low _ 3 6 54 (by omega) (Body.alu_fn _ _)) (RowField.holds_cls _ 0 rfl)

theorem RowPattern.aluUndef67 (h : Head) (d : Dest) (b : AluBits) (ob : OutSel) (qc : QCtl) :
    RowPattern.Statement (.aluUndef67 h d b ob qc) :=
  rowFields_two (RowField.holds_low _ 3 6 55 (by omega) (Body.alu_fn _ _)) (RowField.holds_cls _ 0 rfl)

theorem RowPattern.aluUndef70 (h : Head) (d : Dest) (b : AluBits) (ob : OutSel) (qc : QCtl) :
    RowPattern.Statement (.aluUndef70 h d b ob qc) :=
  rowFields_two (RowField.holds_low _ 3 6 56 (by omega) (Body.alu_fn _ _)) (RowField.holds_cls _ 0 rfl)

theorem RowPattern.aluUndef71 (h : Head) (d : Dest) (b : AluBits) (ob : OutSel) (qc : QCtl) :
    RowPattern.Statement (.aluUndef71 h d b ob qc) :=
  rowFields_two (RowField.holds_low _ 3 6 57 (by omega) (Body.alu_fn _ _)) (RowField.holds_cls _ 0 rfl)

theorem RowPattern.aluUndef72 (h : Head) (d : Dest) (b : AluBits) (ob : OutSel) (qc : QCtl) :
    RowPattern.Statement (.aluUndef72 h d b ob qc) :=
  rowFields_two (RowField.holds_low _ 3 6 58 (by omega) (Body.alu_fn _ _)) (RowField.holds_cls _ 0 rfl)

theorem RowPattern.aluUndef73 (h : Head) (d : Dest) (b : AluBits) (ob : OutSel) (qc : QCtl) :
    RowPattern.Statement (.aluUndef73 h d b ob qc) :=
  rowFields_two (RowField.holds_low _ 3 6 59 (by omega) (Body.alu_fn _ _)) (RowField.holds_cls _ 0 rfl)

theorem RowPattern.aluUndef74 (h : Head) (d : Dest) (b : AluBits) (ob : OutSel) (qc : QCtl) :
    RowPattern.Statement (.aluUndef74 h d b ob qc) :=
  rowFields_two (RowField.holds_low _ 3 6 60 (by omega) (Body.alu_fn _ _)) (RowField.holds_cls _ 0 rfl)

theorem RowPattern.aluUndef75 (h : Head) (d : Dest) (b : AluBits) (ob : OutSel) (qc : QCtl) :
    RowPattern.Statement (.aluUndef75 h d b ob qc) :=
  rowFields_two (RowField.holds_low _ 3 6 61 (by omega) (Body.alu_fn _ _)) (RowField.holds_cls _ 0 rfl)

theorem RowPattern.aluUndef76 (h : Head) (d : Dest) (b : AluBits) (ob : OutSel) (qc : QCtl) :
    RowPattern.Statement (.aluUndef76 h d b ob qc) :=
  rowFields_two (RowField.holds_low _ 3 6 62 (by omega) (Body.alu_fn _ _)) (RowField.holds_cls _ 0 rfl)

theorem RowPattern.aluUndef77 (h : Head) (d : Dest) (b : AluBits) (ob : OutSel) (qc : QCtl) :
    RowPattern.Statement (.aluUndef77 h d b ob qc) :=
  rowFields_two (RowField.holds_low _ 3 6 63 (by omega) (Body.alu_fn _ _)) (RowField.holds_cls _ 0 rfl)

theorem RowPattern.obUndef (h : Head) (d : Dest) (b : AluBits) (fn : AluFn) (qc : QCtl) :
    RowPattern.Statement (.obUndef h d b fn qc) :=
  rowFields_two (RowField.holds_low _ 12 2 0 (by omega) (Body.alu_ob _ _)) (RowField.holds_cls _ 0 rfl)

theorem RowPattern.obAlu (h : Head) (d : Dest) (b : AluBits) (fn : AluFn) (qc : QCtl) :
    RowPattern.Statement (.obAlu h d b fn qc) :=
  rowFields_two (RowField.holds_low _ 12 2 1 (by omega) (Body.alu_ob _ _)) (RowField.holds_cls _ 0 rfl)

theorem RowPattern.obR1 (h : Head) (d : Dest) (b : AluBits) (fn : AluFn) (qc : QCtl) :
    RowPattern.Statement (.obR1 h d b fn qc) :=
  rowFields_two (RowField.holds_low _ 12 2 2 (by omega) (Body.alu_ob _ _)) (RowField.holds_cls _ 0 rfl)

theorem RowPattern.obL1 (h : Head) (d : Dest) (b : AluBits) (fn : AluFn) (qc : QCtl) :
    RowPattern.Statement (.obL1 h d b fn qc) :=
  rowFields_two (RowField.holds_low _ 12 2 3 (by omega) (Body.alu_ob _ _)) (RowField.holds_cls _ 0 rfl)

theorem RowPattern.qcNone (h : Head) (d : Dest) (b : AluBits) (fn : AluFn) (ob : OutSel) :
    RowPattern.Statement (.qcNone h d b fn ob) :=
  rowFields_two (RowField.holds_low _ 0 2 0 (by omega) (Body.alu_qc _ _)) (RowField.holds_cls _ 0 rfl)

theorem RowPattern.qcQl (h : Head) (d : Dest) (b : AluBits) (fn : AluFn) (ob : OutSel) :
    RowPattern.Statement (.qcQl h d b fn ob) :=
  rowFields_two (RowField.holds_low _ 0 2 1 (by omega) (Body.alu_qc _ _)) (RowField.holds_cls _ 0 rfl)

theorem RowPattern.qcQr (h : Head) (d : Dest) (b : AluBits) (fn : AluFn) (ob : OutSel) :
    RowPattern.Statement (.qcQr h d b fn ob) :=
  rowFields_two (RowField.holds_low _ 0 2 2 (by omega) (Body.alu_qc _ _)) (RowField.holds_cls _ 0 rfl)

theorem RowPattern.qcQload (h : Head) (d : Dest) (b : AluBits) (fn : AluFn) (ob : OutSel) :
    RowPattern.Statement (.qcQload h d b fn ob) :=
  rowFields_two (RowField.holds_low _ 0 2 3 (by omega) (Body.alu_qc _ _)) (RowField.holds_cls _ 0 rfl)

theorem RowPattern.jumpNever (h : Head) (j : JumpBits) (misc : JMisc) (r : Bool) (p : Bool) (b43 : BitVec 2) :
    RowPattern.Statement (.jumpNever h j misc r p b43) :=
  rowFields_three (RowField.holds_low _ 0 3 0 (by omega) ((Body.jump_test _ 0 3 (by omega)).trans (JTest.pack_table_code _ _))) (RowField.holds_low _ 5 1 1 (by omega) ((Body.jump_test _ 5 1 (by omega)).trans (JTest.pack_table_top _ _))) (RowField.holds_cls _ 1 rfl)

theorem RowPattern.jumpLt (h : Head) (j : JumpBits) (misc : JMisc) (r : Bool) (p : Bool) (b43 : BitVec 2) :
    RowPattern.Statement (.jumpLt h j misc r p b43) :=
  rowFields_three (RowField.holds_low _ 0 3 1 (by omega) ((Body.jump_test _ 0 3 (by omega)).trans (JTest.pack_table_code _ _))) (RowField.holds_low _ 5 1 1 (by omega) ((Body.jump_test _ 5 1 (by omega)).trans (JTest.pack_table_top _ _))) (RowField.holds_cls _ 1 rfl)

theorem RowPattern.jumpLe (h : Head) (j : JumpBits) (misc : JMisc) (r : Bool) (p : Bool) (b43 : BitVec 2) :
    RowPattern.Statement (.jumpLe h j misc r p b43) :=
  rowFields_three (RowField.holds_low _ 0 3 2 (by omega) ((Body.jump_test _ 0 3 (by omega)).trans (JTest.pack_table_code _ _))) (RowField.holds_low _ 5 1 1 (by omega) ((Body.jump_test _ 5 1 (by omega)).trans (JTest.pack_table_top _ _))) (RowField.holds_cls _ 1 rfl)

theorem RowPattern.jumpEq (h : Head) (j : JumpBits) (misc : JMisc) (r : Bool) (p : Bool) (b43 : BitVec 2) :
    RowPattern.Statement (.jumpEq h j misc r p b43) :=
  rowFields_three (RowField.holds_low _ 0 3 3 (by omega) ((Body.jump_test _ 0 3 (by omega)).trans (JTest.pack_table_code _ _))) (RowField.holds_low _ 5 1 1 (by omega) ((Body.jump_test _ 5 1 (by omega)).trans (JTest.pack_table_top _ _))) (RowField.holds_cls _ 1 rfl)

theorem RowPattern.jumpPf (h : Head) (j : JumpBits) (misc : JMisc) (r : Bool) (p : Bool) (b43 : BitVec 2) :
    RowPattern.Statement (.jumpPf h j misc r p b43) :=
  rowFields_three (RowField.holds_low _ 0 3 4 (by omega) ((Body.jump_test _ 0 3 (by omega)).trans (JTest.pack_table_code _ _))) (RowField.holds_low _ 5 1 1 (by omega) ((Body.jump_test _ 5 1 (by omega)).trans (JTest.pack_table_top _ _))) (RowField.holds_cls _ 1 rfl)

theorem RowPattern.jumpPfi (h : Head) (j : JumpBits) (misc : JMisc) (r : Bool) (p : Bool) (b43 : BitVec 2) :
    RowPattern.Statement (.jumpPfi h j misc r p b43) :=
  rowFields_three (RowField.holds_low _ 0 3 5 (by omega) ((Body.jump_test _ 0 3 (by omega)).trans (JTest.pack_table_code _ _))) (RowField.holds_low _ 5 1 1 (by omega) ((Body.jump_test _ 5 1 (by omega)).trans (JTest.pack_table_top _ _))) (RowField.holds_cls _ 1 rfl)

theorem RowPattern.jumpPfis (h : Head) (j : JumpBits) (misc : JMisc) (r : Bool) (p : Bool) (b43 : BitVec 2) :
    RowPattern.Statement (.jumpPfis h j misc r p b43) :=
  rowFields_three (RowField.holds_low _ 0 3 6 (by omega) ((Body.jump_test _ 0 3 (by omega)).trans (JTest.pack_table_code _ _))) (RowField.holds_low _ 5 1 1 (by omega) ((Body.jump_test _ 5 1 (by omega)).trans (JTest.pack_table_top _ _))) (RowField.holds_cls _ 1 rfl)

theorem RowPattern.jumpAlways (h : Head) (j : JumpBits) (misc : JMisc) (r : Bool) (p : Bool) (b43 : BitVec 2) :
    RowPattern.Statement (.jumpAlways h j misc r p b43) :=
  rowFields_three (RowField.holds_low _ 0 3 7 (by omega) ((Body.jump_test _ 0 3 (by omega)).trans (JTest.pack_table_code _ _))) (RowField.holds_low _ 5 1 1 (by omega) ((Body.jump_test _ 5 1 (by omega)).trans (JTest.pack_table_top _ _))) (RowField.holds_cls _ 1 rfl)

theorem RowPattern.jumpBit (h : Head) (j : JumpBits) (misc : JMisc) (r : Bool) (p : Bool) (rot : BitVec 5) :
    RowPattern.Statement (.jumpBit h j misc r p rot) :=
  rowFields_two (RowField.holds_low _ 5 1 0 (by omega) ((Body.jump_test _ 5 1 (by omega)).trans (JTest.pack_bit_top _))) (RowField.holds_cls _ 1 rfl)

theorem RowPattern.jumpHalt (h : Head) (j : JumpBits) (r : Bool) (p : Bool) (t : JTest) :
    RowPattern.Statement (.jumpHalt h j r p t) :=
  rowFields_two (RowField.holds_low _ 10 2 1 (by omega) (Body.jump_misc _)) (RowField.holds_cls _ 1 rfl)

theorem RowPattern.jumpWriteUcode (h : Head) (j : JumpBits) (misc : JMisc) (t : JTest) :
    RowPattern.Statement (.jumpWriteUcode h j misc t) :=
  rowFields_two (RowField.holds_low _ 8 2 3 (by omega) ((Body.jump_rp _).trans (show bit1 true ++ bit1 true = 3#2 by decide))) (RowField.holds_cls _ 1 rfl)

theorem RowPattern.jumpMisc2 (h : Head) (j : JumpBits) (r : Bool) (p : Bool) (t : JTest) :
    RowPattern.Statement (.jumpMisc2 h j r p t) :=
  rowFields_two (RowField.holds_low _ 10 2 2 (by omega) (Body.jump_misc _)) (RowField.holds_cls _ 1 rfl)

theorem RowPattern.jumpMisc3 (h : Head) (j : JumpBits) (r : Bool) (p : Bool) (t : JTest) :
    RowPattern.Statement (.jumpMisc3 h j r p t) :=
  rowFields_two (RowField.holds_low _ 10 2 3 (by omega) (Body.jump_misc _)) (RowField.holds_cls _ 1 rfl)

theorem RowPattern.dispatch (h : Head) (b : DispBits) :
    RowPattern.Statement (.dispatch h b) :=
  rowFields_two (RowField.holds_low _ 10 2 0 (by omega) (Body.disp_kind _)) (RowField.holds_cls _ 2 rfl)

theorem RowPattern.dispatchMisc1 (h : Head) (b : DispBits) :
    RowPattern.Statement (.dispatchMisc1 h b) :=
  rowFields_two (RowField.holds_low _ 10 2 1 (by omega) (Body.disp_kind _)) (RowField.holds_cls _ 2 rfl)

theorem RowPattern.dispatchWrite (h : Head) (b : DispBits) :
    RowPattern.Statement (.dispatchWrite h b) :=
  rowFields_two (RowField.holds_low _ 10 2 2 (by omega) (Body.disp_kind _)) (RowField.holds_cls _ 2 rfl)

theorem RowPattern.dispatchPosmod (h : Head) (b : DispBits) :
    RowPattern.Statement (.dispatchPosmod h b) :=
  rowFields_two (RowField.holds_low _ 10 2 3 (by omega) (Body.disp_kind _)) (RowField.holds_cls _ 2 rfl)

theorem RowPattern.byteUndef (h : Head) (d : Dest) (b : ByteBits) :
    RowPattern.Statement (.byteUndef h d b) :=
  rowFields_two (RowField.holds_low _ 12 2 0 (by omega) (Body.byte_fn _ _)) (RowField.holds_cls _ 3 rfl)

theorem RowPattern.byteLdb (h : Head) (d : Dest) (b : ByteBits) :
    RowPattern.Statement (.byteLdb h d b) :=
  rowFields_two (RowField.holds_low _ 12 2 1 (by omega) (Body.byte_fn _ _)) (RowField.holds_cls _ 3 rfl)

theorem RowPattern.byteSel (h : Head) (d : Dest) (b : ByteBits) :
    RowPattern.Statement (.byteSel h d b) :=
  rowFields_two (RowField.holds_low _ 12 2 2 (by omega) (Body.byte_fn _ _)) (RowField.holds_cls _ 3 rfl)

theorem RowPattern.byteDpb (h : Head) (d : Dest) (b : ByteBits) :
    RowPattern.Statement (.byteDpb h d b) :=
  rowFields_two (RowField.holds_low _ 12 2 3 (by omega) (Body.byte_fn _ _)) (RowField.holds_cls _ 3 rfl)

theorem RowPattern.popj (g : Ignored) (src : MSrc) (body : Body) :
    RowPattern.Statement (.popj g src body) :=
  rowFields_one (Micro.pack_popj _)

theorem RowPattern.msrcM (a : BitVec 5) (g : Ignored) (pj : Bool) (body : Body) :
    RowPattern.Statement (.msrcM a g pj body) :=
  rowFields_one (RowField.holds_src _ 5 1 0 (by omega) (MSrc.pack_top _))

theorem RowPattern.msrcDispatchConstant (g : Ignored) (pj : Bool) (body : Body) :
    RowPattern.Statement (.msrcDispatchConstant g pj body) :=
  rowFields_one (RowField.holds_src _ 0 6 32 (by omega) BitVec.extractLsb'_eq_self)

theorem RowPattern.msrcSpcPtrAndData (g : Ignored) (pj : Bool) (body : Body) :
    RowPattern.Statement (.msrcSpcPtrAndData g pj body) :=
  rowFields_one (RowField.holds_src _ 0 6 33 (by omega) BitVec.extractLsb'_eq_self)

theorem RowPattern.msrcPdlPointer (g : Ignored) (pj : Bool) (body : Body) :
    RowPattern.Statement (.msrcPdlPointer g pj body) :=
  rowFields_one (RowField.holds_src _ 0 6 34 (by omega) BitVec.extractLsb'_eq_self)

theorem RowPattern.msrcPdlIndex (g : Ignored) (pj : Bool) (body : Body) :
    RowPattern.Statement (.msrcPdlIndex g pj body) :=
  rowFields_one (RowField.holds_src _ 0 6 35 (by omega) BitVec.extractLsb'_eq_self)

theorem RowPattern.msrcUndef04 (g : Ignored) (pj : Bool) (body : Body) :
    RowPattern.Statement (.msrcUndef04 g pj body) :=
  rowFields_one (RowField.holds_src _ 0 6 36 (by omega) BitVec.extractLsb'_eq_self)

theorem RowPattern.msrcPdlBufferIndex (g : Ignored) (pj : Bool) (body : Body) :
    RowPattern.Statement (.msrcPdlBufferIndex g pj body) :=
  rowFields_one (RowField.holds_src _ 0 6 37 (by omega) BitVec.extractLsb'_eq_self)

theorem RowPattern.msrcOpc (g : Ignored) (pj : Bool) (body : Body) :
    RowPattern.Statement (.msrcOpc g pj body) :=
  rowFields_one (RowField.holds_src _ 0 6 38 (by omega) BitVec.extractLsb'_eq_self)

theorem RowPattern.msrcQ (g : Ignored) (pj : Bool) (body : Body) :
    RowPattern.Statement (.msrcQ g pj body) :=
  rowFields_one (RowField.holds_src _ 0 6 39 (by omega) BitVec.extractLsb'_eq_self)

theorem RowPattern.msrcVma (g : Ignored) (pj : Bool) (body : Body) :
    RowPattern.Statement (.msrcVma g pj body) :=
  rowFields_one (RowField.holds_src _ 0 6 40 (by omega) BitVec.extractLsb'_eq_self)

theorem RowPattern.msrcMapMd (g : Ignored) (pj : Bool) (body : Body) :
    RowPattern.Statement (.msrcMapMd g pj body) :=
  rowFields_one (RowField.holds_src _ 0 6 41 (by omega) BitVec.extractLsb'_eq_self)

theorem RowPattern.msrcMd (g : Ignored) (pj : Bool) (body : Body) :
    RowPattern.Statement (.msrcMd g pj body) :=
  rowFields_one (RowField.holds_src _ 0 6 42 (by omega) BitVec.extractLsb'_eq_self)

theorem RowPattern.msrcLc (g : Ignored) (pj : Bool) (body : Body) :
    RowPattern.Statement (.msrcLc g pj body) :=
  rowFields_one (RowField.holds_src _ 0 6 43 (by omega) BitVec.extractLsb'_eq_self)

theorem RowPattern.msrcSpcPtrAndDataPop (g : Ignored) (pj : Bool) (body : Body) :
    RowPattern.Statement (.msrcSpcPtrAndDataPop g pj body) :=
  rowFields_one (RowField.holds_src _ 0 6 44 (by omega) BitVec.extractLsb'_eq_self)

theorem RowPattern.msrcUndef15 (g : Ignored) (pj : Bool) (body : Body) :
    RowPattern.Statement (.msrcUndef15 g pj body) :=
  rowFields_one (RowField.holds_src _ 0 6 45 (by omega) BitVec.extractLsb'_eq_self)

theorem RowPattern.msrcUndef16 (g : Ignored) (pj : Bool) (body : Body) :
    RowPattern.Statement (.msrcUndef16 g pj body) :=
  rowFields_one (RowField.holds_src _ 0 6 46 (by omega) BitVec.extractLsb'_eq_self)

theorem RowPattern.msrcUndef17 (g : Ignored) (pj : Bool) (body : Body) :
    RowPattern.Statement (.msrcUndef17 g pj body) :=
  rowFields_one (RowField.holds_src _ 0 6 47 (by omega) BitVec.extractLsb'_eq_self)

theorem RowPattern.msrcUndef20 (g : Ignored) (pj : Bool) (body : Body) :
    RowPattern.Statement (.msrcUndef20 g pj body) :=
  rowFields_one (RowField.holds_src _ 0 6 48 (by omega) BitVec.extractLsb'_eq_self)

theorem RowPattern.msrcUndef21 (g : Ignored) (pj : Bool) (body : Body) :
    RowPattern.Statement (.msrcUndef21 g pj body) :=
  rowFields_one (RowField.holds_src _ 0 6 49 (by omega) BitVec.extractLsb'_eq_self)

theorem RowPattern.msrcUndef22 (g : Ignored) (pj : Bool) (body : Body) :
    RowPattern.Statement (.msrcUndef22 g pj body) :=
  rowFields_one (RowField.holds_src _ 0 6 50 (by omega) BitVec.extractLsb'_eq_self)

theorem RowPattern.msrcUndef23 (g : Ignored) (pj : Bool) (body : Body) :
    RowPattern.Statement (.msrcUndef23 g pj body) :=
  rowFields_one (RowField.holds_src _ 0 6 51 (by omega) BitVec.extractLsb'_eq_self)

theorem RowPattern.msrcPdlBufferPointerPop (g : Ignored) (pj : Bool) (body : Body) :
    RowPattern.Statement (.msrcPdlBufferPointerPop g pj body) :=
  rowFields_one (RowField.holds_src _ 0 6 52 (by omega) BitVec.extractLsb'_eq_self)

theorem RowPattern.msrcPdlBufferPointer (g : Ignored) (pj : Bool) (body : Body) :
    RowPattern.Statement (.msrcPdlBufferPointer g pj body) :=
  rowFields_one (RowField.holds_src _ 0 6 53 (by omega) BitVec.extractLsb'_eq_self)

theorem RowPattern.msrcUndef26 (g : Ignored) (pj : Bool) (body : Body) :
    RowPattern.Statement (.msrcUndef26 g pj body) :=
  rowFields_one (RowField.holds_src _ 0 6 54 (by omega) BitVec.extractLsb'_eq_self)

theorem RowPattern.msrcUndef27 (g : Ignored) (pj : Bool) (body : Body) :
    RowPattern.Statement (.msrcUndef27 g pj body) :=
  rowFields_one (RowField.holds_src _ 0 6 55 (by omega) BitVec.extractLsb'_eq_self)

theorem RowPattern.msrcUndef30 (g : Ignored) (pj : Bool) (body : Body) :
    RowPattern.Statement (.msrcUndef30 g pj body) :=
  rowFields_one (RowField.holds_src _ 0 6 56 (by omega) BitVec.extractLsb'_eq_self)

theorem RowPattern.msrcUndef31 (g : Ignored) (pj : Bool) (body : Body) :
    RowPattern.Statement (.msrcUndef31 g pj body) :=
  rowFields_one (RowField.holds_src _ 0 6 57 (by omega) BitVec.extractLsb'_eq_self)

theorem RowPattern.msrcUndef32 (g : Ignored) (pj : Bool) (body : Body) :
    RowPattern.Statement (.msrcUndef32 g pj body) :=
  rowFields_one (RowField.holds_src _ 0 6 58 (by omega) BitVec.extractLsb'_eq_self)

theorem RowPattern.msrcUndef33 (g : Ignored) (pj : Bool) (body : Body) :
    RowPattern.Statement (.msrcUndef33 g pj body) :=
  rowFields_one (RowField.holds_src _ 0 6 59 (by omega) BitVec.extractLsb'_eq_self)

theorem RowPattern.msrcUndef34 (g : Ignored) (pj : Bool) (body : Body) :
    RowPattern.Statement (.msrcUndef34 g pj body) :=
  rowFields_one (RowField.holds_src _ 0 6 60 (by omega) BitVec.extractLsb'_eq_self)

theorem RowPattern.msrcUndef35 (g : Ignored) (pj : Bool) (body : Body) :
    RowPattern.Statement (.msrcUndef35 g pj body) :=
  rowFields_one (RowField.holds_src _ 0 6 61 (by omega) BitVec.extractLsb'_eq_self)

theorem RowPattern.msrcUndef36 (g : Ignored) (pj : Bool) (body : Body) :
    RowPattern.Statement (.msrcUndef36 g pj body) :=
  rowFields_one (RowField.holds_src _ 0 6 62 (by omega) BitVec.extractLsb'_eq_self)

theorem RowPattern.msrcUndef37 (g : Ignored) (pj : Bool) (body : Body) :
    RowPattern.Statement (.msrcUndef37 g pj body) :=
  rowFields_one (RowField.holds_src _ 0 6 63 (by omega) BitVec.extractLsb'_eq_self)

theorem RowPattern.destA (b24 : Bool) (addr : BitVec 10) (h : Head) (op : BusOp) :
    RowPattern.Statement (.destA b24 addr h op) :=
  rowFields_one (RowField.holds_dest _ op (.a b24 addr) 11 1 1 rfl (by omega) (Dest.pack_a _ _))

theorem RowPattern.destNone (ma : BitVec 5) (h : Head) (op : BusOp) :
    RowPattern.Statement (.destNone ma h op) :=
  rowFields_one (RowField.holds_dest _ op (.fn .none ma) 5 7 0 rfl (by omega) (Dest.pack_fn _ _))

theorem RowPattern.destLc (ma : BitVec 5) (h : Head) (op : BusOp) :
    RowPattern.Statement (.destLc ma h op) :=
  rowFields_one (RowField.holds_dest _ op (.fn .lc ma) 5 7 1 rfl (by omega) (Dest.pack_fn _ _))

theorem RowPattern.destInterruptControl (ma : BitVec 5) (h : Head) (op : BusOp) :
    RowPattern.Statement (.destInterruptControl ma h op) :=
  rowFields_one (RowField.holds_dest _ op (.fn .interruptControl ma) 5 7 2 rfl (by omega) (Dest.pack_fn _ _))

theorem RowPattern.destUndef03 (ma : BitVec 5) (h : Head) (op : BusOp) :
    RowPattern.Statement (.destUndef03 ma h op) :=
  rowFields_one (RowField.holds_dest _ op (.fn .undef03 ma) 5 7 3 rfl (by omega) (Dest.pack_fn _ _))

theorem RowPattern.destUndef04 (ma : BitVec 5) (h : Head) (op : BusOp) :
    RowPattern.Statement (.destUndef04 ma h op) :=
  rowFields_one (RowField.holds_dest _ op (.fn .undef04 ma) 5 7 4 rfl (by omega) (Dest.pack_fn _ _))

theorem RowPattern.destUndef05 (ma : BitVec 5) (h : Head) (op : BusOp) :
    RowPattern.Statement (.destUndef05 ma h op) :=
  rowFields_one (RowField.holds_dest _ op (.fn .undef05 ma) 5 7 5 rfl (by omega) (Dest.pack_fn _ _))

theorem RowPattern.destUndef06 (ma : BitVec 5) (h : Head) (op : BusOp) :
    RowPattern.Statement (.destUndef06 ma h op) :=
  rowFields_one (RowField.holds_dest _ op (.fn .undef06 ma) 5 7 6 rfl (by omega) (Dest.pack_fn _ _))

theorem RowPattern.destUndef07 (ma : BitVec 5) (h : Head) (op : BusOp) :
    RowPattern.Statement (.destUndef07 ma h op) :=
  rowFields_one (RowField.holds_dest _ op (.fn .undef07 ma) 5 7 7 rfl (by omega) (Dest.pack_fn _ _))

theorem RowPattern.destPdlByPointer (ma : BitVec 5) (h : Head) (op : BusOp) :
    RowPattern.Statement (.destPdlByPointer ma h op) :=
  rowFields_one (RowField.holds_dest _ op (.fn .pdlByPointer ma) 5 7 8 rfl (by omega) (Dest.pack_fn _ _))

theorem RowPattern.destPdlByPointerPush (ma : BitVec 5) (h : Head) (op : BusOp) :
    RowPattern.Statement (.destPdlByPointerPush ma h op) :=
  rowFields_one (RowField.holds_dest _ op (.fn .pdlByPointerPush ma) 5 7 9 rfl (by omega) (Dest.pack_fn _ _))

theorem RowPattern.destPdlByIndex (ma : BitVec 5) (h : Head) (op : BusOp) :
    RowPattern.Statement (.destPdlByIndex ma h op) :=
  rowFields_one (RowField.holds_dest _ op (.fn .pdlByIndex ma) 5 7 10 rfl (by omega) (Dest.pack_fn _ _))

theorem RowPattern.destPdlIndex (ma : BitVec 5) (h : Head) (op : BusOp) :
    RowPattern.Statement (.destPdlIndex ma h op) :=
  rowFields_one (RowField.holds_dest _ op (.fn .pdlIndex ma) 5 7 11 rfl (by omega) (Dest.pack_fn _ _))

theorem RowPattern.destPdlPointer (ma : BitVec 5) (h : Head) (op : BusOp) :
    RowPattern.Statement (.destPdlPointer ma h op) :=
  rowFields_one (RowField.holds_dest _ op (.fn .pdlPointer ma) 5 7 12 rfl (by omega) (Dest.pack_fn _ _))

theorem RowPattern.destSpcPush (ma : BitVec 5) (h : Head) (op : BusOp) :
    RowPattern.Statement (.destSpcPush ma h op) :=
  rowFields_one (RowField.holds_dest _ op (.fn .spcPush ma) 5 7 13 rfl (by omega) (Dest.pack_fn _ _))

theorem RowPattern.destOaLo (ma : BitVec 5) (h : Head) (op : BusOp) :
    RowPattern.Statement (.destOaLo ma h op) :=
  rowFields_one (RowField.holds_dest _ op (.fn .oaLo ma) 5 7 14 rfl (by omega) (Dest.pack_fn _ _))

theorem RowPattern.destOaHi (ma : BitVec 5) (h : Head) (op : BusOp) :
    RowPattern.Statement (.destOaHi ma h op) :=
  rowFields_one (RowField.holds_dest _ op (.fn .oaHi ma) 5 7 15 rfl (by omega) (Dest.pack_fn _ _))

theorem RowPattern.destVma (ma : BitVec 5) (h : Head) (op : BusOp) :
    RowPattern.Statement (.destVma ma h op) :=
  rowFields_one (RowField.holds_dest _ op (.fn .vma ma) 5 7 16 rfl (by omega) (Dest.pack_fn _ _))

theorem RowPattern.destVmaStartRead (ma : BitVec 5) (h : Head) (op : BusOp) :
    RowPattern.Statement (.destVmaStartRead ma h op) :=
  rowFields_one (RowField.holds_dest _ op (.fn .vmaStartRead ma) 5 7 17 rfl (by omega) (Dest.pack_fn _ _))

theorem RowPattern.destVmaStartWrite (ma : BitVec 5) (h : Head) (op : BusOp) :
    RowPattern.Statement (.destVmaStartWrite ma h op) :=
  rowFields_one (RowField.holds_dest _ op (.fn .vmaStartWrite ma) 5 7 18 rfl (by omega) (Dest.pack_fn _ _))

theorem RowPattern.destVmaWriteMap (ma : BitVec 5) (h : Head) (op : BusOp) :
    RowPattern.Statement (.destVmaWriteMap ma h op) :=
  rowFields_one (RowField.holds_dest _ op (.fn .vmaWriteMap ma) 5 7 19 rfl (by omega) (Dest.pack_fn _ _))

theorem RowPattern.destUndef24 (ma : BitVec 5) (h : Head) (op : BusOp) :
    RowPattern.Statement (.destUndef24 ma h op) :=
  rowFields_one (RowField.holds_dest _ op (.fn .undef24 ma) 5 7 20 rfl (by omega) (Dest.pack_fn _ _))

theorem RowPattern.destUndef25 (ma : BitVec 5) (h : Head) (op : BusOp) :
    RowPattern.Statement (.destUndef25 ma h op) :=
  rowFields_one (RowField.holds_dest _ op (.fn .undef25 ma) 5 7 21 rfl (by omega) (Dest.pack_fn _ _))

theorem RowPattern.destUndef26 (ma : BitVec 5) (h : Head) (op : BusOp) :
    RowPattern.Statement (.destUndef26 ma h op) :=
  rowFields_one (RowField.holds_dest _ op (.fn .undef26 ma) 5 7 22 rfl (by omega) (Dest.pack_fn _ _))

theorem RowPattern.destUndef27 (ma : BitVec 5) (h : Head) (op : BusOp) :
    RowPattern.Statement (.destUndef27 ma h op) :=
  rowFields_one (RowField.holds_dest _ op (.fn .undef27 ma) 5 7 23 rfl (by omega) (Dest.pack_fn _ _))

theorem RowPattern.destMd (ma : BitVec 5) (h : Head) (op : BusOp) :
    RowPattern.Statement (.destMd ma h op) :=
  rowFields_one (RowField.holds_dest _ op (.fn .md ma) 5 7 24 rfl (by omega) (Dest.pack_fn _ _))

theorem RowPattern.destMdStartRead (ma : BitVec 5) (h : Head) (op : BusOp) :
    RowPattern.Statement (.destMdStartRead ma h op) :=
  rowFields_one (RowField.holds_dest _ op (.fn .mdStartRead ma) 5 7 25 rfl (by omega) (Dest.pack_fn _ _))

theorem RowPattern.destMdStartWrite (ma : BitVec 5) (h : Head) (op : BusOp) :
    RowPattern.Statement (.destMdStartWrite ma h op) :=
  rowFields_one (RowField.holds_dest _ op (.fn .mdStartWrite ma) 5 7 26 rfl (by omega) (Dest.pack_fn _ _))

theorem RowPattern.destMdWriteMap (ma : BitVec 5) (h : Head) (op : BusOp) :
    RowPattern.Statement (.destMdWriteMap ma h op) :=
  rowFields_one (RowField.holds_dest _ op (.fn .mdWriteMap ma) 5 7 27 rfl (by omega) (Dest.pack_fn _ _))

theorem RowPattern.destUndef34 (ma : BitVec 5) (h : Head) (op : BusOp) :
    RowPattern.Statement (.destUndef34 ma h op) :=
  rowFields_one (RowField.holds_dest _ op (.fn .undef34 ma) 5 7 28 rfl (by omega) (Dest.pack_fn _ _))

theorem RowPattern.destUndef35 (ma : BitVec 5) (h : Head) (op : BusOp) :
    RowPattern.Statement (.destUndef35 ma h op) :=
  rowFields_one (RowField.holds_dest _ op (.fn .undef35 ma) 5 7 29 rfl (by omega) (Dest.pack_fn _ _))

theorem RowPattern.destUndef36 (ma : BitVec 5) (h : Head) (op : BusOp) :
    RowPattern.Statement (.destUndef36 ma h op) :=
  rowFields_one (RowField.holds_dest _ op (.fn .undef36 ma) 5 7 30 rfl (by omega) (Dest.pack_fn _ _))

theorem RowPattern.destUndef37 (ma : BitVec 5) (h : Head) (op : BusOp) :
    RowPattern.Statement (.destUndef37 ma h op) :=
  rowFields_one (RowField.holds_dest _ op (.fn .undef37 ma) 5 7 31 rfl (by omega) (Dest.pack_fn _ _))

theorem RowPattern.destReserved (fd : BitVec 5) (ma : BitVec 5) (h : Head) (op : BusOp) :
    RowPattern.Statement (.destReserved fd ma h op) :=
  rowFields_one (RowField.holds_dest _ op (.reserved fd ma) 10 2 1 rfl (by omega) (Dest.pack_reserved _ _))

end Sys2Proof.Laws
end

