-- ==== Sys2Proof/Tests/Slice0.lean ====
section
/-! SUPPORT. Tests: ill-formed instructions that `Instr.wf` refuses; words written out from the encoding tables of
30_encoding.md and the instruction each decodes to; single instructions on small states with the results that 95, 96 and
97 of spec/ work out; and for every statement with hypotheses a concrete case that meets them. -/

namespace Sys2Proof.Tests

open Sys2Proof.Machine

/-! ### Terms the tests share -/

/-- No ignored bit set. -/
def g0 : Ignored := ⟨false, false, false⟩

/-- No POPJ, M-source `M[0]`. -/
def h0 : Head := ⟨g0, false, .m 0⟩

/-- The same with POPJ. -/
def hp : Head := ⟨g0, true, .m 0⟩

/-- Destination field all zero. -/
def d0 : Dest := .fn .none 0

/-- The remaining fields of an ALU word, all zero. -/
def b0 : AluBits := ⟨0, 0, false, false⟩

/-- SETZ with the pass selector, and ADD: an operation a field row may carry, and one it may not. -/
def opSetz : BusOp := .alu ⟨.setz, .alu, .none, b0⟩
def opAdd : BusOp := .alu ⟨.add, .alu, .none, b0⟩

/-! ### Well-formedness: each check refuses an ill-formed term -/

/-- A SETZ row with each of its conditions broken in turn; the last term is the NOP word. -/
theorem test_wf_aluSetz : ([
    .aluSetz hp d0 b0 .alu .none,
    .aluSetz h0 (.fn .vma 0) b0 .alu .none,
    .aluSetz ⟨g0, false, .fs .q⟩ d0 b0 .alu .none,
    .aluSetz h0 d0 ⟨0, 0, true, false⟩ .alu .ql,
    .aluSetz h0 d0 ⟨0, 0, true, false⟩ .r1 .none,
    .aluSetz h0 d0 ⟨0, 0, true, true⟩ .alu .none,
    .aluSetz h0 d0 ⟨1, 0, true, false⟩ .alu .none,
    .aluSetz h0 d0 ⟨0, 1, true, false⟩ .alu .none,
    .aluSetz h0 d0 b0 .alu .none] : List Instr).all (fun i => !i.wf) = true := by decide

/-- Selector rows: another function, a field row that applies, a Q control, the NOP word. -/
theorem test_wf_selector : ([
    .obUndef h0 d0 ⟨0, 0, true, false⟩ .add .none,
    .obUndef hp d0 ⟨0, 0, true, false⟩ .setz .none,
    .obUndef h0 d0 ⟨0, 0, true, false⟩ .setz .qr,
    .obUndef h0 d0 b0 .setz .none,
    .obAlu h0 d0 ⟨1, 0, false, false⟩ .add .none,
    .obAlu h0 (.fn .none 1) ⟨1, 0, false, false⟩ .setz .none,
    .obAlu h0 d0 ⟨1, 0, false, false⟩ .setz .ql,
    .obAlu h0 d0 ⟨1, 0, false, true⟩ .setz .none,
    .obAlu h0 d0 b0 .setz .none,
    .obR1 h0 d0 b0 .add .none,
    .obR1 hp d0 b0 .setz .none,
    .obR1 h0 d0 b0 .setz .ql,
    .obL1 h0 d0 b0 .add .none,
    .obL1 h0 (.a false 0) b0 .setz .none,
    .obL1 h0 d0 b0 .setz .qload] : List Instr).all (fun i => !i.wf) = true := by decide

/-- Q-control rows. -/
theorem test_wf_qcontrol : ([
    .qcNone h0 d0 ⟨0, 0, false, true⟩ .add .alu,
    .qcNone ⟨g0, false, .m 1⟩ d0 ⟨0, 0, false, true⟩ .setz .alu,
    .qcNone h0 d0 ⟨0, 0, false, true⟩ .setz .r1,
    .qcNone h0 d0 b0 .setz .alu,
    .qcQl h0 d0 b0 .add .alu,
    .qcQl hp d0 b0 .setz .alu,
    .qcQr h0 d0 b0 .add .alu,
    .qcQr ⟨g0, false, .fs .q⟩ d0 b0 .setz .alu,
    .qcQload h0 d0 b0 .add .alu,
    .qcQload h0 (.reserved 0 0) b0 .setz .alu] : List Instr).all (fun i => !i.wf) = true := by decide

/-- Condition rows with a MISC row or the self-write row on the same word; a self-write with a MISC row. -/
theorem test_wf_jump : ([
    .jumpNever h0 ⟨0, 0, false, false⟩ .halt false false 0,
    .jumpLt h0 ⟨0, 0, false, false⟩ .halt false false 0,
    .jumpLe h0 ⟨0, 0, false, false⟩ .halt false false 0,
    .jumpEq h0 ⟨0, 0, false, false⟩ .halt false false 0,
    .jumpPf h0 ⟨0, 0, false, false⟩ .halt false false 0,
    .jumpPfi h0 ⟨0, 0, false, false⟩ .halt false false 0,
    .jumpPfis h0 ⟨0, 0, false, false⟩ .halt false false 0,
    .jumpAlways h0 ⟨0, 0, false, false⟩ .halt false false 0,
    .jumpBit h0 ⟨0, 0, false, false⟩ .halt false false 0,
    .jumpNever h0 ⟨0, 0, false, false⟩ .none true true 0,
    .jumpLt h0 ⟨0, 0, false, false⟩ .none true true 0,
    .jumpLe h0 ⟨0, 0, false, false⟩ .none true true 0,
    .jumpEq h0 ⟨0, 0, false, false⟩ .none true true 0,
    .jumpPf h0 ⟨0, 0, false, false⟩ .none true true 0,
    .jumpPfi h0 ⟨0, 0, false, false⟩ .none true true 0,
    .jumpPfis h0 ⟨0, 0, false, false⟩ .none true true 0,
    .jumpAlways h0 ⟨0, 0, false, false⟩ .none true true 0,
    .jumpBit h0 ⟨0, 0, false, false⟩ .none true true 0,
    .jumpWriteUcode h0 ⟨0, 0, false, false⟩ .misc2 (.bit 0)] : List Instr).all (fun i => !i.wf) = true := by decide

/-- The POPJ row of another function or class. -/
theorem test_wf_popj : ([
    .popj g0 (.m 0) (.bus opAdd d0),
    .popj g0 (.m 0) (.jump ⟨.none, false, false, .bit 0, ⟨0, 0, false, false⟩⟩),
    .popj g0 (.m 0) (.disp ⟨.normal, ⟨0, false, false, false, 0, 0, 0, 0⟩⟩)] : List Instr).all (fun i => !i.wf) = true := by decide

/-- The plain M-source row. -/
theorem test_wf_msrcM : ([
    .msrcM 1 g0 true (.bus opSetz d0),
    .msrcM 0 g0 false (.bus opSetz d0),
    .msrcM 1 g0 false (.bus opAdd d0),
    .msrcM 1 g0 false (.bus (.alu ⟨.setz, .alu, .ql, b0⟩) d0),
    .msrcM 1 g0 false (.bus (.alu ⟨.setz, .r1, .none, b0⟩) d0),
    .msrcM 1 g0 false (.bus opSetz (.fn .lc 0)),
    .msrcM 1 g0 false (.bus (.byte ⟨.ldb, ⟨0, 0, 0, 0⟩⟩) d0),
    .msrcM 1 g0 false (.jump ⟨.none, false, false, .bit 0, ⟨0, 0, false, false⟩⟩)] : List Instr).all (fun i => !i.wf) = true := by decide

/-- Functional-source rows with POPJ. -/
theorem test_wf_functional_source_popj : ([
    .msrcDispatchConstant g0 true (.bus opSetz d0),
    .msrcSpcPtrAndData g0 true (.bus opSetz d0),
    .msrcPdlPointer g0 true (.bus opSetz d0),
    .msrcPdlIndex g0 true (.bus opSetz d0),
    .msrcUndef04 g0 true (.bus opSetz d0),
    .msrcPdlBufferIndex g0 true (.bus opSetz d0),
    .msrcOpc g0 true (.bus opSetz d0),
    .msrcQ g0 true (.bus opSetz d0),
    .msrcVma g0 true (.bus opSetz d0),
    .msrcMapMd g0 true (.bus opSetz d0),
    .msrcMd g0 true (.bus opSetz d0),
    .msrcLc g0 true (.bus opSetz d0),
    .msrcSpcPtrAndDataPop g0 true (.bus opSetz d0),
    .msrcUndef15 g0 true (.bus opSetz d0),
    .msrcUndef16 g0 true (.bus opSetz d0),
    .msrcUndef17 g0 true (.bus opSetz d0),
    .msrcUndef20 g0 true (.bus opSetz d0),
    .msrcUndef21 g0 true (.bus opSetz d0),
    .msrcUndef22 g0 true (.bus opSetz d0),
    .msrcUndef23 g0 true (.bus opSetz d0),
    .msrcPdlBufferPointerPop g0 true (.bus opSetz d0),
    .msrcPdlBufferPointer g0 true (.bus opSetz d0),
    .msrcUndef26 g0 true (.bus opSetz d0),
    .msrcUndef27 g0 true (.bus opSetz d0),
    .msrcUndef30 g0 true (.bus opSetz d0),
    .msrcUndef31 g0 true (.bus opSetz d0),
    .msrcUndef32 g0 true (.bus opSetz d0),
    .msrcUndef33 g0 true (.bus opSetz d0),
    .msrcUndef34 g0 true (.bus opSetz d0),
    .msrcUndef35 g0 true (.bus opSetz d0),
    .msrcUndef36 g0 true (.bus opSetz d0),
    .msrcUndef37 g0 true (.bus opSetz d0)] : List Instr).all (fun i => !i.wf) = true := by decide

/-- Functional-source rows with another function or another destination. -/
theorem test_wf_functional_source_body : ([
    .msrcDispatchConstant g0 false (.bus opAdd d0),
    .msrcSpcPtrAndData g0 false (.bus opSetz (.fn .md 0)),
    .msrcPdlPointer g0 false (.bus opAdd d0),
    .msrcPdlIndex g0 false (.bus opSetz (.fn .md 0)),
    .msrcUndef04 g0 false (.bus opAdd d0),
    .msrcPdlBufferIndex g0 false (.bus opSetz (.fn .md 0)),
    .msrcOpc g0 false (.bus opAdd d0),
    .msrcQ g0 false (.bus opSetz (.fn .md 0)),
    .msrcVma g0 false (.bus opAdd d0),
    .msrcMapMd g0 false (.bus opSetz (.fn .md 0)),
    .msrcMd g0 false (.bus opAdd d0),
    .msrcLc g0 false (.bus opSetz (.fn .md 0)),
    .msrcSpcPtrAndDataPop g0 false (.bus opAdd d0),
    .msrcUndef15 g0 false (.bus opSetz (.fn .md 0)),
    .msrcUndef16 g0 false (.bus opAdd d0),
    .msrcUndef17 g0 false (.bus opSetz (.fn .md 0)),
    .msrcUndef20 g0 false (.bus opAdd d0),
    .msrcUndef21 g0 false (.bus opSetz (.fn .md 0)),
    .msrcUndef22 g0 false (.bus opAdd d0),
    .msrcUndef23 g0 false (.bus opSetz (.fn .md 0)),
    .msrcPdlBufferPointerPop g0 false (.bus opAdd d0),
    .msrcPdlBufferPointer g0 false (.bus opSetz (.fn .md 0)),
    .msrcUndef26 g0 false (.bus opAdd d0),
    .msrcUndef27 g0 false (.bus opSetz (.fn .md 0)),
    .msrcUndef30 g0 false (.bus opAdd d0),
    .msrcUndef31 g0 false (.bus opSetz (.fn .md 0)),
    .msrcUndef32 g0 false (.bus opAdd d0),
    .msrcUndef33 g0 false (.bus opSetz (.fn .md 0)),
    .msrcUndef34 g0 false (.bus opAdd d0),
    .msrcUndef35 g0 false (.bus opSetz (.fn .md 0)),
    .msrcUndef36 g0 false (.bus opAdd d0),
    .msrcUndef37 g0 false (.bus opSetz (.fn .md 0))] : List Instr).all (fun i => !i.wf) = true := by decide

/-- Destination rows with POPJ. -/
theorem test_wf_destination_popj : ([
    .destA false 0 hp opSetz,
    .destNone 1 hp opSetz,
    .destReserved 0 0 hp opSetz,
    .destLc 0 hp opSetz,
    .destInterruptControl 0 hp opSetz,
    .destUndef03 0 hp opSetz,
    .destUndef04 0 hp opSetz,
    .destUndef05 0 hp opSetz,
    .destUndef06 0 hp opSetz,
    .destUndef07 0 hp opSetz,
    .destPdlByPointer 0 hp opSetz,
    .destPdlByPointerPush 0 hp opSetz,
    .destPdlByIndex 0 hp opSetz,
    .destPdlIndex 0 hp opSetz,
    .destPdlPointer 0 hp opSetz,
    .destSpcPush 0 hp opSetz,
    .destOaLo 0 hp opSetz,
    .destOaHi 0 hp opSetz,
    .destVma 0 hp opSetz,
    .destVmaStartRead 0 hp opSetz,
    .destVmaStartWrite 0 hp opSetz,
    .destVmaWriteMap 0 hp opSetz,
    .destUndef24 0 hp opSetz,
    .destUndef25 0 hp opSetz,
    .destUndef26 0 hp opSetz,
    .destUndef27 0 hp opSetz,
    .destMd 0 hp opSetz,
    .destMdStartRead 0 hp opSetz,
    .destMdStartWrite 0 hp opSetz,
    .destMdWriteMap 0 hp opSetz,
    .destUndef34 0 hp opSetz,
    .destUndef35 0 hp opSetz,
    .destUndef36 0 hp opSetz,
    .destUndef37 0 hp opSetz] : List Instr).all (fun i => !i.wf) = true := by decide

/-- Destination rows with another function. -/
theorem test_wf_destination_function : ([
    .destA false 0 h0 opAdd,
    .destNone 1 h0 opAdd,
    .destReserved 0 0 h0 opAdd,
    .destLc 0 h0 opAdd,
    .destInterruptControl 0 h0 opAdd,
    .destUndef03 0 h0 opAdd,
    .destUndef04 0 h0 opAdd,
    .destUndef05 0 h0 opAdd,
    .destUndef06 0 h0 opAdd,
    .destUndef07 0 h0 opAdd,
    .destPdlByPointer 0 h0 opAdd,
    .destPdlByPointerPush 0 h0 opAdd,
    .destPdlByIndex 0 h0 opAdd,
    .destPdlIndex 0 h0 opAdd,
    .destPdlPointer 0 h0 opAdd,
    .destSpcPush 0 h0 opAdd,
    .destOaLo 0 h0 opAdd,
    .destOaHi 0 h0 opAdd,
    .destVma 0 h0 opAdd,
    .destVmaStartRead 0 h0 opAdd,
    .destVmaStartWrite 0 h0 opAdd,
    .destVmaWriteMap 0 h0 opAdd,
    .destUndef24 0 h0 opAdd,
    .destUndef25 0 h0 opAdd,
    .destUndef26 0 h0 opAdd,
    .destUndef27 0 h0 opAdd,
    .destMd 0 h0 opAdd,
    .destMdStartRead 0 h0 opAdd,
    .destMdStartWrite 0 h0 opAdd,
    .destMdWriteMap 0 h0 opAdd,
    .destUndef34 0 h0 opAdd,
    .destUndef35 0 h0 opAdd,
    .destUndef36 0 h0 opAdd,
    .destUndef37 0 h0 opAdd] : List Instr).all (fun i => !i.wf) = true := by decide

/-- Destination NONE with a row before it. -/
theorem test_wf_destNone : ([
    .destNone 0 h0 opSetz,
    .destNone 1 ⟨g0, false, .m 1⟩ opSetz,
    .destNone 1 h0 (.alu ⟨.setz, .l1, .none, b0⟩)] : List Instr).all (fun i => !i.wf) = true := by decide

/-! ### Decoding: words written from the field tables R101 to R106 and the code tables R108 to R116 -/

/-- A list of words, each beside the instruction it stands for. -/
def decodesAll (l : List (Microword × Instr)) : Bool := l.all fun p => decide (decode p.1 = p.2)

/-- Head and destination of the ALU, JUMP and BYTE words below: STAT, POPJ and source MD (0o52); destination VMA (0o20)
with M-memory address 0o27. -/
def hx : Head := ⟨⟨false, true, false⟩, true, .fs .md⟩

def dx : Dest := .fn .vma 0o27

/-- ALU functions 0o00 to 0o17 (R102, R110): every field but the function code the same. -/
theorem test_decode_alu_00 : decodesAll [
    (0x000000001200, .aluSetz h0 d0 ⟨0, 0, true, false⟩ .alu .none),
    (0x469CA885FA0E, .aluAnd hx dx ⟨0o1234, 2, true, true⟩ .l1 .qr),
    (0x469CA885FA16, .aluAndca hx dx ⟨0o1234, 2, true, true⟩ .l1 .qr),
    (0x469CA885FA1E, .aluSetm hx dx ⟨0o1234, 2, true, true⟩ .l1 .qr),
    (0x469CA885FA26, .aluAndcm hx dx ⟨0o1234, 2, true, true⟩ .l1 .qr),
    (0x469CA885FA2E, .aluSeta hx dx ⟨0o1234, 2, true, true⟩ .l1 .qr),
    (0x469CA885FA36, .aluXor hx dx ⟨0o1234, 2, true, true⟩ .l1 .qr),
    (0x469CA885FA3E, .aluIor hx dx ⟨0o1234, 2, true, true⟩ .l1 .qr),
    (0x469CA885FA46, .aluAndcb hx dx ⟨0o1234, 2, true, true⟩ .l1 .qr),
    (0x469CA885FA4E, .aluEqv hx dx ⟨0o1234, 2, true, true⟩ .l1 .qr),
    (0x469CA885FA56, .aluSetca hx dx ⟨0o1234, 2, true, true⟩ .l1 .qr),
    (0x469CA885FA5E, .aluOrca hx dx ⟨0o1234, 2, true, true⟩ .l1 .qr),
    (0x469CA885FA66, .aluSetcm hx dx ⟨0o1234, 2, true, true⟩ .l1 .qr),
    (0x469CA885FA6E, .aluOrcm hx dx ⟨0o1234, 2, true, true⟩ .l1 .qr),
    (0x469CA885FA76, .aluOrcb hx dx ⟨0o1234, 2, true, true⟩ .l1 .qr),
    (0x469CA885FA7E, .aluSeto hx dx ⟨0o1234, 2, true, true⟩ .l1 .qr)] = true := by decide

/-- ALU functions 0o20 to 0o37 (R102, R110): every field but the function code the same. -/
theorem test_decode_alu_20 : decodesAll [
    (0x469CA885FA86, .aluA20 hx dx ⟨0o1234, 2, true, true⟩ .l1 .qr),
    (0x469CA885FA8E, .aluA21 hx dx ⟨0o1234, 2, true, true⟩ .l1 .qr),
    (0x469CA885FA96, .aluA22 hx dx ⟨0o1234, 2, true, true⟩ .l1 .qr),
    (0x469CA885FA9E, .aluA23 hx dx ⟨0o1234, 2, true, true⟩ .l1 .qr),
    (0x469CA885FAA6, .aluA24 hx dx ⟨0o1234, 2, true, true⟩ .l1 .qr),
    (0x469CA885FAAE, .aluA25 hx dx ⟨0o1234, 2, true, true⟩ .l1 .qr),
    (0x469CA885FAB6, .aluSub hx dx ⟨0o1234, 2, true, true⟩ .l1 .qr),
    (0x469CA885FABE, .aluA27 hx dx ⟨0o1234, 2, true, true⟩ .l1 .qr),
    (0x469CA885FAC6, .aluA30 hx dx ⟨0o1234, 2, true, true⟩ .l1 .qr),
    (0x469CA885FACE, .aluAdd hx dx ⟨0o1234, 2, true, true⟩ .l1 .qr),
    (0x469CA885FAD6, .aluA32 hx dx ⟨0o1234, 2, true, true⟩ .l1 .qr),
    (0x469CA885FADE, .aluA33 hx dx ⟨0o1234, 2, true, true⟩ .l1 .qr),
    (0x469CA885FAE6, .aluIncm hx dx ⟨0o1234, 2, true, true⟩ .l1 .qr),
    (0x469CA885FAEE, .aluA35 hx dx ⟨0o1234, 2, true, true⟩ .l1 .qr),
    (0x469CA885FAF6, .aluA36 hx dx ⟨0o1234, 2, true, true⟩ .l1 .qr),
    (0x469CA885FAFE, .aluLshm hx dx ⟨0o1234, 2, true, true⟩ .l1 .qr)] = true := by decide

/-- ALU functions 0o40 to 0o57 (R102, R110): every field but the function code the same. -/
theorem test_decode_alu_40 : decodesAll [
    (0x469CA885FB06, .aluMul hx dx ⟨0o1234, 2, true, true⟩ .l1 .qr),
    (0x469CA885FB0E, .aluDiv hx dx ⟨0o1234, 2, true, true⟩ .l1 .qr),
    (0x469CA885FB16, .aluUndef42 hx dx ⟨0o1234, 2, true, true⟩ .l1 .qr),
    (0x469CA885FB1E, .aluUndef43 hx dx ⟨0o1234, 2, true, true⟩ .l1 .qr),
    (0x469CA885FB26, .aluUndef44 hx dx ⟨0o1234, 2, true, true⟩ .l1 .qr),
    (0x469CA885FB2E, .aluDivrc hx dx ⟨0o1234, 2, true, true⟩ .l1 .qr),
    (0x469CA885FB36, .aluUndef46 hx dx ⟨0o1234, 2, true, true⟩ .l1 .qr),
    (0x469CA885FB3E, .aluUndef47 hx dx ⟨0o1234, 2, true, true⟩ .l1 .qr),
    (0x469CA885FB46, .aluUndef50 hx dx ⟨0o1234, 2, true, true⟩ .l1 .qr),
    (0x469CA885FB4E, .aluDivfs hx dx ⟨0o1234, 2, true, true⟩ .l1 .qr),
    (0x469CA885FB56, .aluUndef52 hx dx ⟨0o1234, 2, true, true⟩ .l1 .qr),
    (0x469CA885FB5E, .aluUndef53 hx dx ⟨0o1234, 2, true, true⟩ .l1 .qr),
    (0x469CA885FB66, .aluUndef54 hx dx ⟨0o1234, 2, true, true⟩ .l1 .qr),
    (0x469CA885FB6E, .aluUndef55 hx dx ⟨0o1234, 2, true, true⟩ .l1 .qr),
    (0x469CA885FB76, .aluUndef56 hx dx ⟨0o1234, 2, true, true⟩ .l1 .qr),
    (0x469CA885FB7E, .aluUndef57 hx dx ⟨0o1234, 2, true, true⟩ .l1 .qr)] = true := by decide

/-- ALU functions 0o60 to 0o77 (R102, R110): every field but the function code the same. -/
theorem test_decode_alu_60 : decodesAll [
    (0x469CA885FB86, .aluUndef60 hx dx ⟨0o1234, 2, true, true⟩ .l1 .qr),
    (0x469CA885FB8E, .aluUndef61 hx dx ⟨0o1234, 2, true, true⟩ .l1 .qr),
    (0x469CA885FB96, .aluUndef62 hx dx ⟨0o1234, 2, true, true⟩ .l1 .qr),
    (0x469CA885FB9E, .aluUndef63 hx dx ⟨0o1234, 2, true, true⟩ .l1 .qr),
    (0x469CA885FBA6, .aluUndef64 hx dx ⟨0o1234, 2, true, true⟩ .l1 .qr),
    (0x469CA885FBAE, .aluUndef65 hx dx ⟨0o1234, 2, true, true⟩ .l1 .qr),
    (0x469CA885FBB6, .aluUndef66 hx dx ⟨0o1234, 2, true, true⟩ .l1 .qr),
    (0x469CA885FBBE, .aluUndef67 hx dx ⟨0o1234, 2, true, true⟩ .l1 .qr),
    (0x469CA885FBC6, .aluUndef70 hx dx ⟨0o1234, 2, true, true⟩ .l1 .qr),
    (0x469CA885FBCE, .aluUndef71 hx dx ⟨0o1234, 2, true, true⟩ .l1 .qr),
    (0x469CA885FBD6, .aluUndef72 hx dx ⟨0o1234, 2, true, true⟩ .l1 .qr),
    (0x469CA885FBDE, .aluUndef73 hx dx ⟨0o1234, 2, true, true⟩ .l1 .qr),
    (0x469CA885FBE6, .aluUndef74 hx dx ⟨0o1234, 2, true, true⟩ .l1 .qr),
    (0x469CA885FBEE, .aluUndef75 hx dx ⟨0o1234, 2, true, true⟩ .l1 .qr),
    (0x469CA885FBF6, .aluUndef76 hx dx ⟨0o1234, 2, true, true⟩ .l1 .qr),
    (0x469CA885FBFE, .aluUndef77 hx dx ⟨0o1234, 2, true, true⟩ .l1 .qr)] = true := by decide

/-- The four NOP words (97 section 6.1). -/
theorem test_decode_nop : decodesAll [
    (0x000000000000, .nop false false),
    (0x000000001000, .nop false true),
    (0x800000000000, .nop true false),
    (0x800000001000, .nop true true)] = true := by decide

/-- Output selectors and Q controls (R111), on words of function SETZ. -/
theorem test_decode_selector_qcontrol : decodesAll [
    (0x000000000004, .obUndef h0 d0 ⟨0, 0, false, true⟩ .setz .none),
    (0x000100001000, .obAlu h0 d0 ⟨1, 0, false, false⟩ .setz .none),
    (0x00000C016000, .obR1 ⟨g0, false, .m 3⟩ (.fn .none 5) b0 .setz .none),
    (0x00000C017000, .obL1 ⟨g0, false, .m 3⟩ (.fn .none 5) b0 .setz .none),
    (0x000000001004, .qcNone h0 d0 ⟨0, 0, false, true⟩ .setz .alu),
    (0x000000003001, .qcQl h0 d0 b0 .setz .l1),
    (0x000000002002, .qcQr h0 d0 b0 .setz .r1),
    (0x000000001003, .qcQload h0 d0 b0 .setz .alu)] = true := by decide

/-- JUMP conditions (R103, R112); MISC is 0. -/
theorem test_decode_jump_condition : decodesAll [
    (0x4E9CAABB92B0, .jumpNever hx ⟨0o1234, 0o25671, true, false⟩ .none true false 2),
    (0x4E9CAABB92B1, .jumpLt hx ⟨0o1234, 0o25671, true, false⟩ .none true false 2),
    (0x4E9CAABB92B2, .jumpLe hx ⟨0o1234, 0o25671, true, false⟩ .none true false 2),
    (0x4E9CAABB92B3, .jumpEq hx ⟨0o1234, 0o25671, true, false⟩ .none true false 2),
    (0x4E9CAABB92B4, .jumpPf hx ⟨0o1234, 0o25671, true, false⟩ .none true false 2),
    (0x4E9CAABB92B5, .jumpPfi hx ⟨0o1234, 0o25671, true, false⟩ .none true false 2),
    (0x4E9CAABB92B6, .jumpPfis hx ⟨0o1234, 0o25671, true, false⟩ .none true false 2),
    (0x4E9CAABB92B7, .jumpAlways hx ⟨0o1234, 0o25671, true, false⟩ .none true false 2),
    (0x4E9CAABB9153, .jumpBit hx ⟨0o1234, 0o25671, false, true⟩ .none false true 0o23)] = true := by decide

/-- JUMP words with a MISC value and the self-write (R108, R257). -/
theorem test_decode_jump_form : decodesAll [
    (0x4E9CAABB97AB, .jumpHalt hx ⟨0o1234, 0o25671, true, false⟩ true true (.table .eq 1)),
    (0x08400000535F, .jumpWriteUcode h0 ⟨0o100, 5, false, true⟩ .none (.bit 0o37)),
    (0x080003FFF901, .jumpMisc2 h0 ⟨0, 0o37777, false, false⟩ false true (.bit 1)),
    (0x080000001E27, .jumpMisc3 h0 ⟨0, 1, false, false⟩ true false (.table .always 0))] = true := by decide

/-- DISPATCH words (R104, R108). -/
theorem test_decode_dispatch : decodesAll [
    (0x569CA9DB92B3, .dispatch hx ⟨0o1234, false, true, true, 0o2671, 2, 5, 0o23⟩),
    (0x569CAADB96B3, .dispatchMisc1 hx ⟨0o1234, true, false, true, 0o2671, 2, 5, 0o23⟩),
    (0x569CA9DB9AB3, .dispatchWrite hx ⟨0o1234, false, true, true, 0o2671, 2, 5, 0o23⟩),
    (0x569CAADB9EB3, .dispatchPosmod hx ⟨0o1234, true, false, true, 0o2671, 2, 5, 0o23⟩)] = true := by decide

/-- BYTE words (R105, R114). -/
theorem test_decode_byte : decodesAll [
    (0x5E9CA885CD75, .byteUndef hx dx ⟨0o1234, 3, 0o13, 0o25⟩),
    (0x5E9CA885DD75, .byteLdb hx dx ⟨0o1234, 3, 0o13, 0o25⟩),
    (0x5E9CA885ED75, .byteSel hx dx ⟨0o1234, 3, 0o13, 0o25⟩),
    (0x5E9CA885FD75, .byteDpb hx dx ⟨0o1234, 3, 0o13, 0o25⟩)] = true := by decide

/-- The POPJ bit and a plain M-source (R101, R107) on words of function SETZ. -/
theorem test_decode_popj_msrcM : decodesAll [
    (0xA4000C089000, .popj ⟨true, false, true⟩ (.m 3) (.bus opSetz (.fn .lc 2))),
    (0x000078009000, .msrcM 0o36 g0 false (.bus opSetz (.fn .none 2)))] = true := by decide

/-- Functional sources 0o00 to 0o17 (R115). -/
theorem test_decode_source_00 : decodesAll [
    (0x000080009000, .msrcDispatchConstant g0 false (.bus opSetz (.fn .none 2))),
    (0x000084009000, .msrcSpcPtrAndData g0 false (.bus opSetz (.fn .none 2))),
    (0x000088009000, .msrcPdlPointer g0 false (.bus opSetz (.fn .none 2))),
    (0x00008C009000, .msrcPdlIndex g0 false (.bus opSetz (.fn .none 2))),
    (0x000090009000, .msrcUndef04 g0 false (.bus opSetz (.fn .none 2))),
    (0x000094009000, .msrcPdlBufferIndex g0 false (.bus opSetz (.fn .none 2))),
    (0x000098009000, .msrcOpc g0 false (.bus opSetz (.fn .none 2))),
    (0x00009C009000, .msrcQ g0 false (.bus opSetz (.fn .none 2))),
    (0x0000A0009000, .msrcVma g0 false (.bus opSetz (.fn .none 2))),
    (0x0000A4009000, .msrcMapMd g0 false (.bus opSetz (.fn .none 2))),
    (0x0000A8009000, .msrcMd g0 false (.bus opSetz (.fn .none 2))),
    (0x0000AC009000, .msrcLc g0 false (.bus opSetz (.fn .none 2))),
    (0x0000B0009000, .msrcSpcPtrAndDataPop g0 false (.bus opSetz (.fn .none 2))),
    (0x0000B4009000, .msrcUndef15 g0 false (.bus opSetz (.fn .none 2))),
    (0x0000B8009000, .msrcUndef16 g0 false (.bus opSetz (.fn .none 2))),
    (0x0000BC009000, .msrcUndef17 g0 false (.bus opSetz (.fn .none 2)))] = true := by decide

/-- Functional sources 0o20 to 0o37 (R115). -/
theorem test_decode_source_20 : decodesAll [
    (0x0000C0009000, .msrcUndef20 g0 false (.bus opSetz (.fn .none 2))),
    (0x0000C4009000, .msrcUndef21 g0 false (.bus opSetz (.fn .none 2))),
    (0x0000C8009000, .msrcUndef22 g0 false (.bus opSetz (.fn .none 2))),
    (0x0000CC009000, .msrcUndef23 g0 false (.bus opSetz (.fn .none 2))),
    (0x0000D0009000, .msrcPdlBufferPointerPop g0 false (.bus opSetz (.fn .none 2))),
    (0x0000D4009000, .msrcPdlBufferPointer g0 false (.bus opSetz (.fn .none 2))),
    (0x0000D8009000, .msrcUndef26 g0 false (.bus opSetz (.fn .none 2))),
    (0x0000DC009000, .msrcUndef27 g0 false (.bus opSetz (.fn .none 2))),
    (0x0000E0009000, .msrcUndef30 g0 false (.bus opSetz (.fn .none 2))),
    (0x0000E4009000, .msrcUndef31 g0 false (.bus opSetz (.fn .none 2))),
    (0x0000E8009000, .msrcUndef32 g0 false (.bus opSetz (.fn .none 2))),
    (0x0000EC009000, .msrcUndef33 g0 false (.bus opSetz (.fn .none 2))),
    (0x0000F0009000, .msrcUndef34 g0 false (.bus opSetz (.fn .none 2))),
    (0x0000F4009000, .msrcUndef35 g0 false (.bus opSetz (.fn .none 2))),
    (0x0000F8009000, .msrcUndef36 g0 false (.bus opSetz (.fn .none 2))),
    (0x0000FC009000, .msrcUndef37 g0 false (.bus opSetz (.fn .none 2)))] = true := by decide

/-- Functional destinations 0o00 to 0o17 (R116). -/
theorem test_decode_destination_00 : decodesAll [
    (0x000000045000, .destNone 0o21 h0 opSetz),
    (0x0000000C5000, .destLc 0o21 h0 opSetz),
    (0x000000145000, .destInterruptControl 0o21 h0 opSetz),
    (0x0000001C5000, .destUndef03 0o21 h0 opSetz),
    (0x000000245000, .destUndef04 0o21 h0 opSetz),
    (0x0000002C5000, .destUndef05 0o21 h0 opSetz),
    (0x000000345000, .destUndef06 0o21 h0 opSetz),
    (0x0000003C5000, .destUndef07 0o21 h0 opSetz),
    (0x000000445000, .destPdlByPointer 0o21 h0 opSetz),
    (0x0000004C5000, .destPdlByPointerPush 0o21 h0 opSetz),
    (0x000000545000, .destPdlByIndex 0o21 h0 opSetz),
    (0x0000005C5000, .destPdlIndex 0o21 h0 opSetz),
    (0x000000645000, .destPdlPointer 0o21 h0 opSetz),
    (0x0000006C5000, .destSpcPush 0o21 h0 opSetz),
    (0x000000745000, .destOaLo 0o21 h0 opSetz),
    (0x0000007C5000, .destOaHi 0o21 h0 opSetz)] = true := by decide

/-- Functional destinations 0o20 to 0o37 (R116). -/
theorem test_decode_destination_20 : decodesAll [
    (0x000000845000, .destVma 0o21 h0 opSetz),
    (0x0000008C5000, .destVmaStartRead 0o21 h0 opSetz),
    (0x000000945000, .destVmaStartWrite 0o21 h0 opSetz),
    (0x0000009C5000, .destVmaWriteMap 0o21 h0 opSetz),
    (0x000000A45000, .destUndef24 0o21 h0 opSetz),
    (0x000000AC5000, .destUndef25 0o21 h0 opSetz),
    (0x000000B45000, .destUndef26 0o21 h0 opSetz),
    (0x000000BC5000, .destUndef27 0o21 h0 opSetz),
    (0x000000C45000, .destMd 0o21 h0 opSetz),
    (0x000000CC5000, .destMdStartRead 0o21 h0 opSetz),
    (0x000000D45000, .destMdStartWrite 0o21 h0 opSetz),
    (0x000000DC5000, .destMdWriteMap 0o21 h0 opSetz),
    (0x000000E45000, .destUndef34 0o21 h0 opSetz),
    (0x000000EC5000, .destUndef35 0o21 h0 opSetz),
    (0x000000F45000, .destUndef36 0o21 h0 opSetz),
    (0x000000FC5000, .destUndef37 0o21 h0 opSetz)] = true := by decide

/-- Direct A-memory and the reserved bit (R106). -/
theorem test_decode_destination_other : decodesAll [
    (0x000003B15000, .destA true 0o1305 h0 opSetz),
    (0x000002315000, .destA false 0o305 h0 opSetz),
    (0x000001845000, .destReserved 0o20 0o21 h0 opSetz)] = true := by decide

/-! ### Single instructions (95, 96 and 97 of spec/) -/

/-- The state after the word. -/
def after (w : Microword) (s : State) : State :=
  match exec (decode w) s with
  | .next t => t
  | .fault _ => s
  | .refused _ => s

/-- The harness state of the vectors where a word at 0o100 executes. -/
def at100 : State := { State.reset with promEnabled := false, uPc := 0o102 }

/-- The same with `M[1] = A[1] = m` and `A[0o100] = a`. -/
def withMA (m a : Word) : State :=
  { at100 with mMem := Store.set [] 1 m, aMem := Store.set (Store.set [] 1 m) 0o100 a }

/-- `M[2]` after each word on one state. -/
def m2All (s : State) (l : List (Microword × Word)) : Bool := l.all fun p => decide (readMMem (after p.1 s) 2 = p.2)

/-- `M[2]` and Q after a word that starts with this M, A and Q. -/
def m2q (w : Microword) (m a q out q' : Word) : Bool :=
  let t := after w { withMA m a with q := q }
  decide (readMMem t 2 = out) && decide (t.q = q')

/-- `u_pc` after a word. -/
def pcAll (l : List (Microword × State × MicroPc)) : Bool := l.all fun p => decide ((after p.1 p.2.1).uPc = p.2.2)

/-- 96 section 1.1, pair P1, codes 0o00 to 0o17. -/
theorem test_alu_boolean :
    m2All (withMA 0x0000F0F0 0x00FF00FF) [
      (0o0004000400110000, 0x00000000),
      (0o0004000400110010, 0x000000F0),
      (0o0004000400110020, 0x0000F000),
      (0o0004000400110030, 0x0000F0F0),
      (0o0004000400110040, 0x00FF000F),
      (0o0004000400110050, 0x00FF00FF),
      (0o0004000400110060, 0x00FFF00F),
      (0o0004000400110070, 0x00FFF0FF),
      (0o0004000400110100, 0xFF000F00),
      (0o0004000400110110, 0xFF000FF0),
      (0o0004000400110120, 0xFF00FF00),
      (0o0004000400110130, 0xFF00FFF0),
      (0o0004000400110140, 0xFFFF0F0F),
      (0o0004000400110150, 0xFFFF0FFF),
      (0o0004000400110160, 0xFFFFFF0F),
      (0o0004000400110170, 0xFFFFFFFF)] = true := by decide

/-- 96 section 1.1, pair P1 with CIN = 1, codes 0o20 to 0o37. -/
theorem test_alu_arithmetic :
    m2All (withMA 0x0000F0F0 0x00FF00FF) [
      (0o0004000400110204, 0x00000000),
      (0o0004000400110214, 0x000000F0),
      (0o0004000400110224, 0x0000F000),
      (0o0004000400110234, 0x0000F0F0),
      (0o0004000400110244, 0xFF00FFF1),
      (0o0004000400110254, 0xFF0100E1),
      (0o0004000400110264, 0xFF01EFF1),
      (0o0004000400110274, 0xFF01F0E1),
      (0o0004000400110304, 0x00FFF100),
      (0o0004000400110314, 0x00FFF1F0),
      (0o0004000400110324, 0x0100E100),
      (0o0004000400110334, 0x0100E1F0),
      (0o0004000400110344, 0x0000F0F1),
      (0o0004000400110354, 0x0000F1E1),
      (0o0004000400110364, 0xFF01F0E1),
      (0o0004000400110374, 0x0001E1E1)] = true := by decide

/-- 96 section 1.1, pair P2 with CIN = 0: the carry, seen through the right-shift selector (R225). -/
theorem test_alu_carry :
    m2All (withMA 0xFFFFFFFF 1) [
      (0o0004000400120200, 0x7FFFFFFF),
      (0o0004000400120210, 0x80000000),
      (0o0004000400120220, 0xFFFFFFFE),
      (0o0004000400120230, 0xFFFFFFFF),
      (0o0004000400120240, 0x7FFFFFFF),
      (0o0004000400120250, 0x80000000),
      (0o0004000400120260, 0xFFFFFFFE),
      (0o0004000400120270, 0xFFFFFFFF),
      (0o0004000400120300, 0x7FFFFFFF),
      (0o0004000400120310, 0x80000000),
      (0o0004000400120320, 0xFFFFFFFE),
      (0o0004000400120330, 0xFFFFFFFF),
      (0o0004000400120340, 0x7FFFFFFF),
      (0o0004000400120350, 0x80000000),
      (0o0004000400120360, 0xFFFFFFFF),
      (0o0004000400120370, 0xFFFFFFFF)] = true := by decide

/-- 96 section 1.2, result and carry (through the right-shift selector) of MUL, DIV, DIVRC, DIVFS. -/
theorem test_alu_step :
    m2q 0o0004000400120400 0x5 0x3 1 0x00000004 1 &&
    m2q 0o0004000400120400 0x80000005 0x3 0 0xC0000002 0 &&
    m2q 0o0004000400120414 0xA 0x3 1 0x80000003 1 &&
    m2q 0o0004000400120410 0xA 0x3 0 0x00000006 0 &&
    m2q 0o0004000400120450 0xA 0x3 1 0x00000005 1 &&
    m2q 0o0004000400120450 0xFFFFFFFD 0x3 0 0x80000000 0 &&
    m2q 0o0004000400120510 0xA 0x3 1 0x80000003 1 &&
    m2q 0o0004000400120514 0x0 0x0 0 0x7FFFFFFF 0 = true := by decide

/-- 96 section 1.3: selectors and Q controls; the last word has the undefined selector. -/
theorem test_selector_qcontrol :
    m2q 0o0004000400110310 0xFFFFFFFF 0x1 0x0 0x00000000 0x00000000 &&
    m2q 0o0004000400120310 0xFFFFFFFF 0x1 0x0 0x80000000 0x00000000 &&
    m2q 0o0004000400130310 0x40000000 0x1 0x80000000 0x80000003 0x80000000 &&
    m2q 0o0000000400110031 0x7FFFFFFF 0x0 0x80000001 0x7FFFFFFF 0x00000003 &&
    m2q 0o0000000400110032 0x1 0x0 0x3 0x00000001 0x80000001 &&
    m2q 0o0000000400110033 0xDEADBEEF 0x0 0x3 0xDEADBEEF 0xDEADBEEF &&
    m2q 0o0000023400130031 0x0 0x0 0x80000001 0x00000003 0x00000002 &&
    m2q 0o0004000400100313 0x2 0x1 0x7 0x00000000 0x00000007 = true := by decide

/-- 96 section 1.4: an undefined function has no effect, but its popping source pops. -/
theorem test_undefined_function :
    m2q 0o0004000400110773 2 1 7 0 7 = true ∧ (after 0o0000032000110420 { at100 with pdlPtr := 5 }).pdlPtr = 4 := by decide

/-- 96 section 1.4: a direct A write below 32 leaves M; bit 24 is ignored. -/
theorem test_direct_a :
    let s : State := { at100 with mMem := [(5, 0x11)], aMem := [(5, 0x11), (0o100, 0x77)] }
    readAMem (after 0o0004000200250050 s) 5 = 0x77 ∧ readMMem (after 0o0004000200250050 s) 5 = 0x11 ∧
      readAMem (after 0o0004000300250050 s) 5 = 0x77 := by decide

/-- The start state of 97 section 1. -/
def sourceState : State :=
  { at100 with
    dispatchConstant := 0o123, spcPtr := 3, spc := [(2, 63), (3, 0o40555)], pdlPtr := 5, pdlIndex := 7
    pdl := [(5, 0x55555555), (7, 0x77777777)], opc := 0o1234, q := 0x89ABCDEF, vma := 0xFEDCBA98, md := 0o1234567
    l1 := [(0o51, 7)], l2 := [(0o371, 0x00C00042)], lc := 0x2C000013, mMem := [(6, 0x66666666)] }

/-- 97 section 1: what each source gives. -/
theorem test_sources :
    m2All sourceState [
      (0o0000003000110030, 0x66666666),
      (0o0000020000110030, 0x53),
      (0o0000020400110030, 0x0300416D),
      (0o0000021000110030, 0x5),
      (0o0000021400110030, 0x7),
      (0o0000022400110030, 0x77777777),
      (0o0000023000110030, 0x29C),
      (0o0000023400110030, 0x89ABCDEF),
      (0o0000024000110030, 0xFEDCBA98),
      (0o0000024400110030, 0x07C00042),
      (0o0000025000110030, 0x00053977),
      (0o0000025400110030, 0x2C000013),
      (0o0000026000110030, 0x0300416D),
      (0o0000032000110030, 0x55555555),
      (0o0000032400110030, 0x55555555)] = true := by decide

/-- 97 section 1: the pops, at the wrap too; the halfword LC. -/
theorem test_sources_pop :
    (after 0o0000026000110030 sourceState).spcPtr = 2 ∧ (after 0o0000032000110030 sourceState).pdlPtr = 4 ∧
    (after 0o0000026000110030 { sourceState with spcPtr := 0 }).spcPtr = 31 ∧
    (after 0o0000032000110030 { sourceState with pdlPtr := 0 }).pdlPtr = 1023 ∧
    readMMem (after 0o0000025400110030 { sourceState with lc := 0x0C000013 }) 2 = 0x0C000012 := by decide

/-- 97 section 1: the map probe with fault flags and in a window. -/
theorem test_sources_map :
    readMMem (after 0o0000024400110030 { sourceState with writeFault := true, accessFault := true }) 2 = 0xC7C00042 ∧
    readMMem (after 0o0000024400110030 { sourceState with md := 0o77377412 }) 2 = 0x00C03DFF := by decide

/-- The start state of 97 section 2. -/
def destState : State :=
  { at100 with
    pdlPtr := 5, pdlIndex := 7, spcPtr := 3, lc := 0x10000000, md := 0x1111, vma := 0x2222
    aMem := [(0o100, 0xFFF84321)] }

/-- 97 section 2: LC, interrupt control, the PDL and the SPC stack. -/
theorem test_destinations_register :
    (after 0o0004000002210050 destState).lc = 0x93F84320 ∧ (after 0o0004000004210050 destState).lc = 0x3C000000 ∧
    readPdl (after 0o0004000020210050 destState) 5 = 0xFFF84321 ∧ readPdl (after 0o0004000022210050 destState) 6 = 0xFFF84321 ∧
    readPdl (after 0o0004000024210050 destState) 7 = 0xFFF84321 ∧ (after 0o0004000026210050 destState).pdlIndex = 0o1441 ∧
    (after 0o0004000030210050 destState).pdlPtr = 0o1441 ∧ (after 0o0004000032210050 destState).spc = [(4, 0x4321)] := by decide

/-- 97 section 2: OA, VMA, MD and the captures of the undefined ones. -/
theorem test_destinations_oa_vma_md :
    (after 0o0004000034210050 destState).oaLo = 0x03F84321 ∧ (after 0o0004000036210050 destState).oaHi = 0x00384321 ∧
    (after 0o0004000040210050 destState).vma = 0xFFF84321 ∧ (after 0o0004000060210050 destState).md = 0xFFF84321 ∧
    readMMem (after 0o0004000006210050 destState) 4 = 0xFFF84321 ∧ readMMem (after 0o0004000100210050 destState) 4 = 0xFFF84321 := by decide

/-- 97 section 2: the four starts on empty maps. -/
theorem test_destinations_denied :
    ([0o0004000042210050, 0o0004000044210050, 0o0004000062210050, 0o0004000064210050] : List Microword).all (fun w =>
      let t := after w destState
      t.pageFault && t.accessFault && !t.writeFault && readMMem t 4 == 0xFFF84321) = true := by decide

/-- 97 section 2: a map write of both levels. -/
theorem test_destinations_map :
    let t := after 0o0004000046210050 destState
    t.l1 = [(0, 0o37)] ∧ t.l2 = [(0o1761, 0x00F84321)] ∧ t.pages = [0o1441] ∧ readMMem t 4 = 0xFFF84321 := by decide

/-- A state with virtual page 0x11 mapped to page 5, whose word 0x22 is 0xAAAA5555 (97 section 2). -/
def mapped (a vma md : Word) : State :=
  { at100 with
    l2 := [(0o21, 0xC00005)], pages := [5], mem := writeWord [] (cellKey 5 0x22) 0xAAAA5555
    aMem := [(0o100, a)], vma := vma, md := md }

/-- 97 section 2: a read starts and MD is not yet loaded. -/
theorem test_start_read :
    let t := after 0o0004000042010050 (mapped 0x1122 0 7)
    t.newMd = 0xAAAA5555 ∧ t.newMdDelay = 2 ∧ t.md = 7 ∧ t.vma = 0x1122 := by decide

/-- 97 section 2: MD-START-WRITE stores the new MD, VMA-START-WRITE the old. -/
theorem test_start_write :
    physWord (after 0o0004000064010050 (mapped 0xCAFE 0x1123 0)) 5 0x23 = 0xCAFE ∧
    physWord (after 0o0004000044010050 (mapped 0x1124 0 0xBEEF)) 5 0x24 = 0xBEEF := by decide

/-- 97 section 2: a write to a read-only page. -/
theorem test_write_denied :
    let t := after 0o0004000044010050 { mapped 0x1124 0 0xBEEF with l2 := [(0o21, 0x800005)] }
    physWord t 5 0x24 = 0 ∧ t.writeFault = true ∧ t.accessFault = false ∧ t.pageFault = true ∧ t.opc = 5 := by decide

/-- 97 section 2: level 1 only, and both levels through MD-WRITE-MAP. -/
theorem test_map_write_level1 :
    (after 0o0004000046010050 (mapped 0xFCABCDEF 0 0o1234567)).l1 = [(0o51, 31)] ∧
    (after 0o0004000066010050 (mapped 0o1234567 0x4EC003FF 0)).l2 = [(0o21, 0xC00005), (0o471, 0x00C003FF)] := by decide

/-- 96 section 2.1: NEVER, LT, LE, EQ, ALWAYS. -/
theorem test_jump_compare :
    pcAll [
      (0o0204000403000040, withMA 1 1, 0o102),
      (0o0204000403000140, withMA 1 1, 0o300),
      (0o0204000403000041, withMA 0x80000000 0, 0o300),
      (0o0204000403000041, withMA 0x7FFFFFFF 0x80000000, 0o102),
      (0o0204000403000042, withMA 5 5, 0o300),
      (0o0204000403000142, withMA 6 5, 0o300),
      (0o0204000403000043, withMA 42 42, 0o300),
      (0o0204000403000043, withMA 42 0x8000002A, 0o102),
      (0o0204000403000047, withMA 0 0, 0o300),
      (0o0204000403000147, withMA 0 0, 0o102)] = true := by decide

/-- 96 section 2.1: PF, PFI, PFIS. -/
theorem test_jump_flags :
    pcAll [
      (0o0204000403000044, { at100 with pageFault := true }, 0o300),
      (0o0204000403000044, { at100 with accessFault := true }, 0o102),
      (0o0204000403000045, { at100 with interruptPending := true }, 0o102),
      (0o0204000403000045, { at100 with interruptPending := true, lc := 0x08000000 }, 0o300),
      (0o0204000403000045, { at100 with lc := 0x04000000 }, 0o102),
      (0o0204000403000046, { at100 with lc := 0x04000000 }, 0o300),
      (0o0204000403000046, { at100 with interruptPending := true }, 0o102)] = true := by decide

/-- 96 section 2.1: BIT. -/
theorem test_jump_bit :
    pcAll [
      (0o0200000403000000, withMA 1 0, 0o300),
      (0o0200000403000000, withMA 0xFFFFFFFE 0, 0o102),
      (0o0200000403000001, withMA 0x80000000 0, 0o300),
      (0o0200000403000037, withMA 2 0, 0o300),
      (0o0200000403000030, withMA 0x100 0, 0o300),
      (0o0200000403000130, withMA 0xFFFFFEFF 0, 0o300)] = true := by decide

/-- The start state of 96 section 2.2. -/
def stackState : State := { at100 with spcPtr := 3, spc := [(3, 0o555), (4, 0o7777)] }

/-- 96 section 2.2: JUMP, CALL-XCT-NEXT, CALL, RETURN. -/
theorem test_jump_call_return :
    (after 0o0200000003000247 stackState).noExecNext = true ∧ (after 0o0200000003000447 stackState).spc = [(3, 0o555), (4, 0o102)] ∧
    (after 0o0200000003000647 stackState).spc = [(3, 0o555), (4, 0o101)] ∧ (after 0o0200000003000647 stackState).spcPtr = 4 ∧
    (after 0o0200000003001047 stackState).uPc = 0o555 ∧ (after 0o0200000003001247 stackState).spcPtr = 2 := by decide

/-- 96 section 2.2: a taken jump suppresses POPJ, an untaken one does not. -/
theorem test_jump_popj :
    (after 0o0300000003000047 stackState).uPc = 0o300 ∧ (after 0o0300000003000040 stackState).uPc = 0o555 := by decide

/-- 96 section 2.2: the jump resolves, then the engine halts; MISC = 2 does not halt. -/
theorem test_jump_halt :
    (after 0o0200000003002247 at100).run = false ∧ (after 0o0200000003002247 at100).uPc = 0o300 ∧
    (after 0o0200000003004047 at100).run = true ∧ (after 0o0200000003006047 at100).uPc = 0o300 := by decide

/-- 96 section 2.2: the LC advance of a return, with and without a fetch. -/
theorem test_jump_return_advance :
    let s : State := { at100 with spcPtr := 3, spc := [(3, 0o40554)], l2 := [(0, 0xC00005)] }
    (after 0o0200000003001047 { s with lc := 0x80000010 }).lc = 0x12 ∧
    (after 0o0200000003001047 { s with lc := 0x80000010 }).vma = 4 ∧
    (after 0o0200000003001047 { s with lc := 2 }).uPc = 0o556 ∧ (after 0o0200000003001047 { s with lc := 2 }).lc = 0x80000004 := by decide

/-- 96 section 2.3: the word written, and the taken self-write. -/
theorem test_self_write :
    let s := { withMA 0xDEADBEEF 0xABCD1234 with spcPtr := 3 }
    (after 0o0204000412341440 s).ucode = [(0o1234, 0x1234DEADBEEF)] ∧ (after 0o0204000412341440 s).spcPtr = 3 ∧
    (after 0o0204000412341647 s).uPc = 0o101 ∧ (after 0o0204000412341647 s).spc = [(4, 0o101)] := by decide

/-- A state with `M[5]` and one dispatch entry that jumps to `0o2000`. -/
def dispState (m5 : Word) (i : Nat) (e : BitVec 17) : State :=
  { at100 with mMem := [(5, m5)], dmem := [(i, e)], spcPtr := 3, spc := [(3, 0o555)] }

/-- 96 sections 3.1 and 3.3: only the entry at the right address jumps to 0o2000. -/
theorem test_dispatch_address :
    pcAll [
      (0o0400002401000140, dispState 0o26 0o106 0o2000, 0o2000),
      (0o0400002402000170, dispState 0o2400 0o205 0o2000, 0o2000),
      (0o0400002401000000, dispState 0xFFFFFFFF 0o100 0o2000, 0o2000),
      (0o0400002401030140, dispState 5 0o107 0o2000, 0o2000),
      (0o0400002437700340, dispState 0o177 0o3777 0o2000, 0o2000),
      (0o0400002401001000, { dispState 1 0o100 0o2000 with md := 0o1234567, l1 := [(0o51, 7)], l2 := [(0o371, 0o61000102)] }, 0o2000),
      (0o0400002401000500, { dispState 2 0o103 0o2000 with md := 0o1234567, l1 := [(0o51, 7)], l2 := [(0o371, 0o61000102)] }, 0o2000),
      (0o0405142401002140, dispState 0o26 0o106 0o2000, 0o2000)] = true := by decide

/-- 96 section 3.2: P with N, N+1, R, and an entry with P and R. -/
theorem test_dispatch_entry :
    (after 0o0405142401000140 (dispState 0o26 0o106 0o142000)).spc = [(3, 0o555), (4, 0o101)] ∧
    (after 0o0405142601000140 (dispState 0o26 0o106 0o142000)).spc = [(3, 0o555), (4, 0o100)] ∧
    (after 0o0405142401000140 (dispState 0o26 0o106 0o242000)).uPc = 0o555 ∧
    (after 0o0405142401000140 (dispState 0o26 0o106 0o342000)).uPc = 0o102 ∧
    (after 0o0405142401000140 (dispState 0o26 0o106 0o342000)).noExecNext = true ∧
    (after 0o0405142401000140 (dispState 0o26 0o106 0o2000)).dispatchConstant = 0o123 := by decide

/-- 96 section 3.2: ISH. -/
theorem test_dispatch_ish :
    (after 0o0405142501000140 { dispState 0o26 0o106 0o2000 with lc := 2 }).lc = 0x80000004 := by decide

/-- 96 section 3.3: the entry is written and no source is read. -/
theorem test_dispatch_write :
    let s : State := { at100 with aMem := [(0o17, 0xFFFE229C)], pdlPtr := 5, dispatchConstant := 0o55 }
    (after 0o0400740001064000 s).dmem = [(0o106, 0o21234)] ∧ (after 0o0400740001064000 s).dispatchConstant = 0o55 ∧
    (after 0o0400772301065777 s).pdlPtr = 5 := by decide

/-- 96 section 3.3: the rotate count under position modify. -/
theorem test_dispatch_posmod :
    pcAll [
      (0o0400002401006200, { dispState 0x87654321 0o105 0o2000 with lc := 0 }, 0o2000),
      (0o0400002401006200, { dispState 0x87654321 0o101 0o2000 with lc := 2 }, 0o2000),
      (0o0400002401006200, { dispState 0x87654321 0o103 0o2000 with lc := 0x20000001 }, 0o2000),
      (0o0400002401006200, { dispState 0x87654321 0o107 0o2000 with lc := 0x20000003 }, 0o2000)] = true := by decide

/-- 96 section 4.2: LDB, SEL, DPB, empty masks, and the undefined operation. -/
theorem test_byte :
    m2q 0o0604000400110370 0x12345678 0xAAAAAAAA 7 0xAAAAAA56 7 &&
    m2q 0o0604000400111744 0x12345678 0x0 7 0x23456781 7 &&
    m2q 0o0604000400120354 0x12345678 0xFFFFFFFF 7 0xFFF45FFF 7 &&
    m2q 0o0604000400120374 0x12345678 0xAAAAAAAA 7 0xAAAAAAAA 7 &&
    m2q 0o0604000400130354 0xAB 0xFFFFFFFF 7 0xFFFABFFF 7 &&
    m2q 0o0604000400130374 0xFF 0x11111111 7 0x11111111 7 &&
    m2q 0o0604000400130037 0x1 0x0 7 0x80000000 7 &&
    m2q 0o0604000400100340 0x12345678 0x5 7 0x0 7 = true := by decide

/-- 96 section 4.3: LDB of 8 bits from field 0, and DPB, under position modify. -/
theorem test_byte_posmod :
    readMMem (after 0o0604025000116340 { at100 with md := 0xDDCCBBAA }) 2 = 0xCC ∧
    readMMem (after 0o0604025000116340 { at100 with md := 0xDDCCBBAA, lc := 0x20000003 }) 2 = 0xDD ∧
    readMMem (after 0o0604000400136340 { withMA 0xEE 0x11111111 with lc := 0x20000002 }) 2 = 0x11EE1111 := by decide

/-- 97 section 6.1: POPJ on an ALU word whose selector is undefined; 96 section 1.4: on one that writes. -/
theorem test_popj :
    (after 0o0100000000000000 stackState).uPc = 0o555 ∧ (after 0o0104000000110050 stackState).spcPtr = 2 := by decide

/-- 97 section 6.1: a NOP leaves `M[0]`; SETZ with the shift selector writes it. -/
theorem test_nop :
    readMMem (after 0o4000000000010000 { at100 with mMem := [(0, 0x99)] }) 0 = 0x99 ∧
    readMMem (after 0o0000000000020000 { at100 with mMem := [(0, 0x99)] }) 0 = 0 := by decide

/-! ### Operations (97 sections 3 to 5) -/

/-- 97 section 3.1: a walk, the windows and their neighbours. -/
theorem test_translate :
    let s : State := { at100 with l1 := [(0o51, 7), (0o3737, 0o37)], l2 := [(0o371, 0xC40042), (0o1777, 0x403FFF)] }
    translateVa s 0o01234567 = ⟨0o102, true, true, 0o167, 7, 0x00C40042⟩ ∧
    translateVa s 0o76777777 = ⟨0o37777, false, true, 0o377, 31, 0x00403FFF⟩ ∧
    translateVa s 0o77077777 = ⟨0o36000, true, true, 0o377, 0, 0x00C03C00⟩ ∧
    translateVa s 0o77200123 = ⟨0o36000, true, true, 0o123, 0, 0x00C03C00⟩ ∧
    translateVa s 0o77377400 = ⟨0o36777, true, true, 0, 0, 0x00C03DFF⟩ ∧
    translateVa s 0o77377377 = ⟨0, false, false, 0o377, 0, 0⟩ := by decide

/-- The maps of 97 section 3.2, with 64 pages of RAM. -/
def memState : State :=
  { at100 with
    ramLast := 63, isr := 0o2000
    l2 := [(1, 0xC00005), (2, 0x800006), (3, 0x400007), (4, 0xC00040), (5, 0xC02000), (6, 0xC03FF6), (7, 0xC03FF4)] }

/-- 97 section 3.2: RAM, a denied write, an absent page. -/
theorem test_memory :
    (memRead 0o412 memState).1 = some 0 ∧ (memRead 0o412 memState).2.pages = [5] ∧
    (memRead 0o412 (memWrite 0o412 0x12345678 memState)).1 = some 0x12345678 ∧ (memWrite 0o1012 0xFFFF memState).opc = 6 ∧
    (memRead 0o1412 memState).1 = none ∧ (memRead 0o2012 (memWrite 0o2012 0xAAAA memState)).1 = some 0xFFFFFFFF ∧
    (memRead 0o2412 memState).1 = some 0xFFFFFFFF := by decide

/-- 97 section 3.2: the interrupt status on the bus and the PROM disable location. -/
theorem test_unibus_page :
    (memRead 0o3020 memState).1 = some 0x400 ∧ (memWrite 0o3020 0xFFFFFFFF memState).isr = 0o36001 ∧
    (memWrite 0o3021 0o100260 { memState with isr := 0o36001 }).isr = 0o136261 ∧
    (memWrite 0o3005 0o40 { memState with promEnabled := true }).promEnabled = true ∧
    (memWrite 0o3005 0o44 { memState with promEnabled := true }).promEnabled = false := by decide

/-- 97 section 3.2: accesses handed to devices. -/
theorem test_device_pages :
    (memWrite 0o3412 0x55 memState).devLog = [.write 0o37764 0o12 0x55 0o3412] ∧
    (memWrite 0o77001234 1 memState).devLog = [.write 0o36000 0o234 1 0o77001234] ∧
    (memWrite 0o77377401 2 memState).devLog = [.write 0o36777 1 2 0o77377401] ∧
    (memRead 0o3412 { memState with devAnswers := [⟨9, [.assertXbus]⟩] }).1 = some 9 := by decide

/-- R372 with R72 to R74: a device that answers the engine reads the register of another device, whose call is done before its own later ones; RAM and an absent page by DMA. -/
theorem test_device_reaches_device :
    let s : State := { memState with devAnswers := [⟨9, [.readPhy 0o36777 3, .deassertXbus, .writePhy 5 1 7]⟩, ⟨4, [.assertXbus, .assertUnibus 0o260]⟩] }
    let t := (memRead 0o3412 s).2
    t.devLog = [.read 0o36777 3 0, .read 0o37764 0o12 0o3412] ∧ t.devAnswers = [] ∧ t.isr = 0o102260 ∧
    (physRead 5 1 0 t).1 = 7 ∧ t.pages = [5] ∧ devCalls [.writePhy 0o2000 0 1] s = s := by decide

/-- 97 section 4. -/
theorem test_interrupts :
    let on (v : BitVec 16) : State := { at100 with isr := v }
    (assertUnibus 0o260 (on 0)).isr = 0 ∧ (assertUnibus 0o260 (on 0o2000)).isr = 0o102260 ∧
    (assertUnibus 0o777 (on 0o102260)).isr = 0o102774 ∧ (deassertUnibus (on 0o142774)).isr = 0o042000 ∧
    (deassertUnibus (on 0o142774)).interruptPending = true ∧ (deassertXbus (on 0o040000)).interruptPending = false := by decide

/-- 97 section 5: halfword mode, byte mode, an odd start and the wrap of the count. -/
theorem test_advance :
    let on (v : Word) : State := { at100 with lc := v, l2 := [(0, 0xC00005)] }
    (advanceLc 0 (on 0x80000000)).2.lc = 2 ∧ (advanceLc 0 (on 2)).2.lc = 0x80000004 ∧
    (advanceLc 0 (on 0xA0000004)).2.lc = 0x20000005 ∧ (advanceLc 0 (on 0x20000003)).2.lc = 0xA0000004 ∧
    (advanceLc 0 (on 3)).2.lc = 0x80000005 ∧ (advanceLc 0o40554 (on 0x83FFFFFE)).2.lc = 0x80000000 ∧
    (advanceLc 0o40554 (on 0x83FFFFFE)).2.vma = 0x00FFFFFF := by decide

/-! ### One step -/

/-- The state after one step. -/
def cycle (s : State) : State :=
  match step s with
  | .next t => t
  | .fault _ => s
  | .refused _ => s

/-- 97 section 6.2: with the stall flag the prefetched word is lost. -/
theorem test_step_stall :
    let s : State := { at100 with uPc := 0o200, noExecNext := true, p1 := 0o0000000000350170, ucode := [(0o200, 0o0000000000050170)] }
    readMMem (cycle s) 7 = 0 ∧ readMMem (cycle s) 1 = 0xFFFFFFFF ∧ (cycle s).uPc = 0o202 ∧ (cycle s).p0Pc = 0o200 := by decide

/-- 97 section 6.3: the NOP test comes after the merge. -/
theorem test_step_modify :
    readMMem (cycle { at100 with oaLo := 0xD078, oaLoSet := true }) 3 = 0xFFFFFFFF ∧
    (cycle { at100 with oaLo := 0xD078, oaLoSet := true }).oaLoSet = false := by decide

/-- 97 section 6.5: the cycle counter and the micro-PC wrap; a halted core keeps both. -/
theorem test_step_counter :
    (cycle { at100 with cycles := 0xFFFFFFFF }).cycles = 1 ∧ (cycle { at100 with uPc := 0o37777 }).uPc = 0 ∧
    (cycle { at100 with run := false }).cycles = 0 := by decide

/-- 97 section 6.5: the PROM is fetched modulo 512. -/
theorem test_step_prom :
    (cycle { State.reset with uPc := 0o1003, prom := [(3, 0o200000000002040)] }).p1 = 0o200000000002040 := by decide

/-- 97 section 6.4: MD is loaded at the second cycle start. -/
theorem test_step_md_load :
    (cycle { at100 with newMd := 9, newMdDelay := 2, md := 7 }).md = 7 ∧ (cycle { at100 with newMd := 9, newMdDelay := 1, md := 7 }).md = 9 := by decide

/-- The table word of ALU.SETO, stored where the next step fetches, runs (R201). -/
theorem test_withFetchWord :
    (cycle (State.reset.withFetchWord 48 0x000000001078)).mMem = [(0, 0xFFFFFFFF)] := by decide

/-- A table row (DEST.OA-HI, R314) through the table interface. -/
theorem test_decodeTableWord :
    decodeTableWord 48 0x000000780000 = some (.destOaHi 0 h0 (.alu ⟨.setz, .undef, .none, b0⟩)) := by decide

/-! ### Cases that meet the hypotheses of the statements -/

/-- The instruction is the NOP row. -/
def namedNop (i : Instr) : Bool :=
  match i with
  | .nop _ _ => true
  | _ => false

/-- The hypotheses of DecodeOfEncode. -/
theorem witness_DecodeOfEncode :
    Instr.wf (.aluAdd hp (.reserved 0o37 0o37) ⟨0o1777, 3, true, true⟩ .l1 .qload) = true ∧
    Instr.wf (.nop true true) = true ∧ Instr.wf (.destReserved 0o37 0o37 h0 opSetz) = true := by decide

/-- The hypotheses of RowsOfOneWordAgree. -/
theorem witness_RowsOfOneWordAgree :
    let i : Instr := .aluSeta h0 (.fn .vma 0) b0 .alu .none
    let j : Instr := .destVma 0 h0 (.alu ⟨.seta, .alu, .none, b0⟩)
    encode i = encode j ∧ i ≠ j ∧ namedNop i = false ∧ namedNop j = false := by decide

/-- The hypotheses of StepRunsTheDecodedInstruction. -/
theorem witness_StepRunsTheDecodedInstruction :
    let i : Instr := .aluSeto h0 (.fn .none 7) b0 .alu .none
    let s : State := { at100 with p1 := encode i }
    i.wf = true ∧ s.run = true ∧ s.noExecNext = false ∧ s.oaLoSet = false ∧ s.oaHiSet = false ∧ s.p1 = encode i := by decide

/-- The hypotheses of StallDiscardsOneWord. -/
theorem witness_StallDiscardsOneWord :
    let s : State := { at100 with noExecNext := true, p1 := 0o200000000002040 }
    s.run = true ∧ s.noExecNext = true ∧ s.oaLoSet = false ∧ s.oaHiSet = false := by decide

/-- The hypotheses of ModifyMergesIntoTheNextWord. -/
theorem witness_ModifyMergesIntoTheNextWord :
    ({ at100 with oaLo := 1, oaLoSet := true, oaHi := 0x3FFFFF, oaHiSet := true, noExecNext := true } : State).run = true := by decide

/-- The hypothesis of the halted clause. -/
theorem witness_EveryStepGoesOn :
    ({ at100 with run := false } : State).run = false := by decide

/-- The run flag, and each of the three delays. -/
theorem witness_ReadDataReachesMdInTwoCycles :
    at100.run = true ∧ at100.newMdDelay = 0 ∧ ({ at100 with newMdDelay := 1 } : State).newMdDelay = 1 ∧
    ({ at100 with newMdDelay := 2 } : State).newMdDelay = 2 := by decide

/-- The hypotheses of PromIsKept. -/
theorem witness_PromIsKept :
    step State.reset = .next (cycle State.reset) ∧ (cycle State.reset).promEnabled = true := ⟨rfl, rfl⟩

/-- The hypotheses of EveryStepKeepsTheInvariant. -/
theorem witness_EveryStepKeepsTheInvariant :
    State.Inv (mapped 1 2 3) ∧ step (mapped 1 2 3) = .next (cycle (mapped 1 2 3)) := ⟨by constructor <;> decide, rfl⟩

/-- The hypotheses of ResetValues. -/
theorem witness_ResetValues :
    ∃ s : State, s = State.reset := ⟨_, rfl⟩

/-- Both values of the carry-in. -/
theorem witness_NamedArithmeticForms :
    (⟨0, 0, false, true⟩ : AluBits).cin = true ∧ b0.cin = false := by decide

/-- The hypotheses of SelfWriteStoresTheWord. -/
theorem witness_SelfWriteStoresTheWord :
    (⟨0o1777, 0o37777, true, false⟩ : JumpBits).inv = false := by decide

/-- An entry with bit 14 set, at both ends of the stack, and one without. -/
theorem witness_ReturnsPopTheStack :
    let s : State := { at100 with spcPtr := 31, spc := [(31, 0x3FFFF)] }
    let t : State := { at100 with spcPtr := 0, spc := [(0, 0x44000)] }
    (s.spc.get s.spcPtr.toNat).getLsbD 14 = true ∧ (t.spc.get t.spcPtr.toNat).getLsbD 14 = true ∧
    (stackState.spc.get stackState.spcPtr.toNat).getLsbD 14 = false := by decide

/-- NEED-FETCH clear and set, at the end of the count. -/
theorem witness_LcAdvance :
    ({ at100 with lc := 0x7FFFFFFF } : State).lc.getLsbD 31 = false ∧ ({ at100 with lc := 0x83FFFFFF } : State).lc.getLsbD 31 = true := by decide

/-- The 33 pushes of R26, with the first and the last pop. -/
theorem witness_SpcIsARing :
    let vs : List (BitVec 19) := (List.range 33).map (BitVec.ofNat 19)
    0 < vs.length ∧ 31 < vs.length ∧ vs.length = 33 := by decide

/-- Both ends of the range. -/
theorem witness_RotationProperty :
    ∃ m n : Nat, 0 < m ∧ m < 32 ∧ m = 1 ∧ 0 < n ∧ n < 32 ∧ n = 31 := ⟨1, 31, by decide⟩

/-- `SETA` of `A[0o100]` with destination PDL-BY-POINTER-PUSH. -/
def opSeta : BusOp := .alu ⟨.seta, .alu, .none, ⟨0o100, 0, false, false⟩⟩

/-- A functional destination with the last M word, and the direct form with the last A word. -/
theorem witness_MCaptureIsSeenInBothMemories :
    let i : Instr := .destPdlByPointerPush 31 h0 opSeta
    let j : Instr := .destA false 0o1777 h0 opSeta
    namedNop i = false ∧ i.micro.body = .bus opSeta (.fn .pdlByPointerPush 31) ∧ i.micro.head.popj = false ∧
    namedNop j = false ∧ j.micro.body = .bus opSeta (.a false 0o1777) ∧
    busValue opSeta (readM i.micro.head.src destState).1 (readM i.micro.head.src destState).2 = some (0xFFF84321, 0) := by decide

/-- The hypotheses of DirectAWriteLeavesM. -/
theorem witness_DirectAWriteLeavesM :
    busValue opSeta (readMMem destState 31) destState = some (0xFFF84321, 0) ∧ (0 : BitVec 10) ≠ 0o1777 := by decide

/-- The hypotheses of QChangesOnlyInTheAluClass. -/
theorem witness_QChangesOnlyInTheAluClass :
    let i : Instr := .byteLdb hp d0 ⟨0o100, 3, 7, 0⟩
    i.micro.body = .bus (.byte ⟨.ldb, ⟨0o100, 3, 7, 0⟩⟩) d0 ∧ exec i sourceState = .next (after (encode i) sourceState) := ⟨rfl, rfl⟩

/-- The hypotheses of BusWordsDoNotTransfer. -/
theorem witness_BusWordsDoNotTransfer :
    let i : Instr := .destMdStartWrite 0 h0 opSeta
    i.micro.body = .bus opSeta (.fn .mdStartWrite 0) ∧ i.micro.head.popj = false ∧
    exec i destState = .next (runMicro i.micro destState) := ⟨rfl, rfl, rfl⟩

/-- A JUMP word that halts and one that does not. -/
theorem witness_OnlyAHaltStopsTheEngine :
    let j : JumpBits := ⟨0, 0o300, true, false⟩
    let i : Instr := .jumpHalt h0 j false false (.table .always 0)
    let k : Instr := .jumpMisc2 h0 j false false (.table .always 0)
    namedNop i = false ∧ i.micro.body = .jump ⟨.halt, false, false, .table .always 0, j⟩ ∧
    exec i at100 = .next (runMicro i.micro at100) ∧ namedNop k = false ∧
    k.micro.body = .jump ⟨.misc2, false, false, .table .always 0, j⟩ ∧ exec k at100 = .next (runMicro k.micro at100) := ⟨rfl, rfl, rfl, rfl, rfl, rfl⟩

/-- A word that writes none of the four stores. -/
theorem witness_ControlStoresHaveOneWriter :
    let i : Instr := .destMdStartWrite 0 h0 opSeta
    exec i destState = .next (runMicro i.micro destState) ∧ i.micro.body = .bus opSeta (.fn .mdStartWrite 0) ∧
    (⟨.none, true, false, .bit 0, ⟨0, 0, false, false⟩⟩ : JumpOp).p = false := ⟨rfl, rfl, rfl⟩

/-- Addresses at the ends of the space and beside the windows. -/
theorem witness_TableWalk :
    Ruled.tableWalked 0 = true ∧ Ruled.tableWalked 0o76777777 = true ∧ Ruled.tableWalked 0o77100000 = true ∧
    Ruled.tableWalked 0o77377377 = true ∧ Ruled.tableWalked 0o77777777 = true := by decide

/-- The first and last address of each window; the third is in neither of the first two. -/
theorem witness_HardwiredWindows :
    (0o77000000#24).toNat / 2 ^ 15 = 0o770 ∧ (0o77077777#24).toNat / 2 ^ 15 = 0o770 ∧
    (0o77200000#24).toNat / 2 ^ 15 = 0o772 ∧ (0o77277777#24).toNat / 2 ^ 15 = 0o772 ∧
    (0o77377400#24).toNat / 2 ^ 8 = 0o77377400 / 2 ^ 8 ∧ (0o77377777#24).toNat / 2 ^ 8 = 0o77377400 / 2 ^ 8 ∧
    ¬ ((0o77377400#24).toNat / 2 ^ 15 = 0o770 ∨ (0o77377400#24).toNat / 2 ^ 15 = 0o772) := by decide

/-- `memState` with a cycle at this virtual address. -/
def cycleAt (va : Word) : State := { memState with vma := va, md := 0x12345678 }

/-- The translation of that cycle. -/
def walked (va : Word) : Translation := translateVa (cycleAt va) (cycleAddress (cycleAt va))

/-- No access; access without write. -/
theorem witness_DeniedCycles :
    (walked 0o1412).accessOk = false ∧ (walked 0o1012).accessOk = true ∧ (walked 0o1012).writeOk = false := by decide

/-- A page that a first access allocates, and one that exists. -/
theorem witness_ReadOfMemory :
    (walked 0o412).accessOk = true ∧ Ruled.backedPage (cycleAt 0o412) (walked 0o412).ppn = true ∧
    pageExists (cycleAt 0o412) (walked 0o412).ppn = false ∧
    pageExists { cycleAt 0o412 with pages := [5] } (walked 0o412).ppn = true := by decide

/-- The hypotheses of WriteOfMemory. -/
theorem witness_WriteOfMemory :
    (walked 0o412).accessOk = true ∧ (walked 0o412).writeOk = true ∧ Ruled.backedPage (cycleAt 0o412) (walked 0o412).ppn = true ∧
    cellKey (walked 0o412).ppn (walked 0o412).off = 5160 := by decide

/-- The engine writes; a device writes, and the address in VMA translates there. -/
theorem witness_ReadAfterWrite :
    let s := cycleAt 0o412
    let u := startWrite s
    let d := devCalls [.writePhy 5 0o12 0xABCD] s
    ((walked 0o412).accessOk = true ∧ (walked 0o412).writeOk = true ∧ Ruled.backedPage s (walked 0o412).ppn = true ∧
      u.mem = (startWrite s).mem ∧ u.pages = (startWrite s).pages ∧ u.l1 = s.l1 ∧ u.l2 = s.l2 ∧
      cycleAddress u = cycleAddress s) ∧
    Ruled.backedPage s 5 = true ∧ pageExists s 5 = false ∧ d.mem = (devCalls [.writePhy 5 0o12 0xABCD] s).mem ∧
    (translateVa d (cycleAddress d)).accessOk = true ∧ (translateVa d (cycleAddress d)).ppn = 5 ∧
    (translateVa d (cycleAddress d)).off = 0o12 := by decide

/-- A page just above the RAM and page 8192. -/
theorem witness_AbsentPages :
    ((walked 0o2012).accessOk = true ∧ (walked 0o2012).writeOk = true ∧ Ruled.ordinaryPage (walked 0o2012).ppn = true ∧
      Ruled.backedPage (cycleAt 0o2012) (walked 0o2012).ppn = false) ∧
    (walked 0o2412).accessOk = true ∧ Ruled.ordinaryPage (walked 0o2412).ppn = true ∧
      Ruled.backedPage (cycleAt 0o2412) (walked 0o2412).ppn = false := by decide

/-- A store to RAM, and a denied address. -/
theorem witness_StoreFrame :
    let s : State := { cycleAt 0o412 with aMem := [(0o100, 0o412)] }
    busValue opSeta (readM (.m 0) s).1 (readM (.m 0) s).2 = some (0o412, 0) ∧
    Ruled.ordinaryPage (translateVa s ((0o412 : Word).extractLsb' 0 24)).ppn = true ∧
    ((translateVa s ((0o1412 : Word).extractLsb' 0 24)).accessOk && (translateVa s ((0o1412 : Word).extractLsb' 0 24)).writeOk) =
      false := by decide

/-- A state with an LC return entry on top of the SPC stack (bit 14 set), and one with a plain entry. -/
def lcReturn : State := { at100 with spc := [(0, 0o40200)], l2 := [(0, 0xC00005)] }
def plainReturn : State := { at100 with spc := [(0, 0o200)], lc := 0x80000000 }

/-- No start and no return; a POPJ, a taken R, a POPJ on a DISPATCH write, a dispatch entry with R and ISH without
NEED-FETCH; and forms that do start a cycle. -/
theorem witness_NonStoringFormsKeepMemory :
    let dispReturn : State := { lcReturn with dmem := [(0, 0o200000)] }
    let body (ish : Bool) : Body := .disp ⟨.normal, ⟨0, false, ish, false, 0, 0, 0, 0⟩⟩
    let jumpR : Body := .jump ⟨.none, true, false, .table .always 0, ⟨0, 0, false, false⟩⟩
    Ruled.memoryCycle false (.bus opSeta (.fn .mdWriteMap 0)) 0 destState = false ∧
    Ruled.memoryCycle true (.bus opSeta (.fn .md 0)) 0 plainReturn = false ∧ Ruled.memoryCycle false jumpR 0 plainReturn = false ∧
    Ruled.memoryCycle false jumpR 0 lcReturn = false ∧
    Ruled.memoryCycle true (.disp ⟨.write, ⟨0, false, false, false, 0, 0, 0, 0⟩⟩) 0 plainReturn = false ∧
    Ruled.memoryCycle false (body false) 0 dispReturn = false ∧ Ruled.memoryCycle false (body true) 0 lcReturn = false ∧
    Ruled.memoryCycle false jumpR 0 { lcReturn with lc := 0x80000000 } = true ∧
    Ruled.memoryCycle false (body true) 0 plainReturn = true ∧
    Ruled.memoryCycle false (.bus opSeta (.fn .mdStartRead 0)) 0 destState = true := by decide

/-- A device page with an answer and without one; a device page reached by DMA. -/
theorem witness_DeviceRouting :
    (walked 0o3412).accessOk = true ∧ (walked 0o3412).writeOk = true ∧ isDevicePage (walked 0o3412).ppn = true ∧
    ({ cycleAt 0o3412 with devAnswers := [⟨9, [.assertXbus]⟩] } : State).devAnswers = ⟨9, [.assertXbus]⟩ :: [] ∧
    (cycleAt 0o3412).devAnswers = [] ∧ isDevicePage 0o36777 = true := by decide

/-- Each combination of the two enables; the last page that can exist and the first that cannot. -/
theorem witness_MapWrite :
    let on (v : Word) : State := { at100 with vma := v, md := 0xFFFFFF }
    (on 0x02001FFF).vma.getLsbD 25 = true ∧ (on 0x02002000).vma.toNat % 2 ^ 14 = 8192 ∧ (on 0x04000000).vma.getLsbD 25 = false ∧
    (on 0x01FFFFFF).vma.getLsbD 26 = false ∧ (on 0x01FFFFFF).vma.getLsbD 25 = false ∧
    ((on 0x04000000).vma.getLsbD 26 || (on 0x04000000).vma.getLsbD 25) = true := by decide

/-- The hypotheses of MapWriteIsSeenAtOnce. -/
theorem witness_MapWriteIsSeenAtOnce :
    let s : State := { at100 with vma := 0x02C00005, md := 0o76777777 }
    s.vma.getLsbD 25 = true ∧ Ruled.tableWalked (mapAddress s) = true := by decide

/-- The enable and the pending bit, clear and set. -/
theorem witness_UnibusInterrupts :
    at100.isr.getLsbD 10 = false ∧ ({ at100 with isr := 0o2000 } : State).isr.getLsbD 10 = true ∧ at100.isr.getLsbD 15 = false ∧
    ({ at100 with isr := 0o142774 } : State).isr.getLsbD 15 = true := by decide

/-- The pending bit clear and set. -/
theorem witness_XbusInterrupts :
    at100.isr.getLsbD 14 = false ∧ ({ at100 with isr := 0o142774 } : State).isr.getLsbD 14 = true := by decide

/-- Each of the three locations, and another one of the page. -/
theorem witness_StatusRegisterOnTheBus :
    ((walked 0o3020).accessOk = true ∧ (walked 0o3020).writeOk = true ∧ (walked 0o3020).ppn = 0o37766 ∧ (walked 0o3020).off = 0o20) ∧
    (walked 0o3021).off = 0o21 ∧ (walked 0o3005).off = 0o5 ∧ (walked 0o3377).off ≠ 0o20 ∧ (walked 0o3377).off ≠ 0o21 ∧
    (walked 0o3377).off ≠ 0o5 ∧ (walked 0o3377).ppn = 0o37766 := by decide

/-- The hypotheses of PollAssertionIsSeenInTheSameCycle. -/
theorem witness_PollAssertionIsSeenInTheSameCycle :
    let s : State := { at100 with pollFast := [[.assertXbus]], cycles := 65535 }
    s.run = true ∧ s.pollFast = [.assertXbus] :: [] ∧ s.cycles.toNat % 65536 ≠ 0 := by decide

end Sys2Proof.Tests
end

/-! SUPPORT. What every part of a cycle keeps: the invariant `State.Inv`, the PROM with its disabled enable, and the
parameters of the run. One rule per operation, in the order of the model; the statements PromIsKept and
EveryStepKeepsTheInvariant follow from the rule for `step`. -/

namespace Sys2Proof.Machine

/-! ### The canonical form of memory -/

theorem Store.all_set {w : Nat} {m : Store w} {i : Nat} {v : BitVec w} {f : Nat × BitVec w → Bool}
    (h : m.all f = true) (hv : f (i, v) = true) : (Store.set m i v).all f = true := by
  unfold Store.set
  split
  · exact Store.all_erase m i f h
  · exact Store.all_insert _ _ _ _ (Store.all_erase m i f h) hv

/-- A test of addresses that all cells and the four addresses of a word pass is passed after the word is stored. -/
theorem all_writeWord {mem : List Host.Cell} {k : Nat} (v : Word) {f : Nat → Bool}
    (h : (mem.all fun c => f c.1) = true) (hk : ∀ j < 4, f (k + j) = true) :
    ((writeWord mem k v).all fun c => f c.1) = true :=
  Store.all_set (Store.all_set (Store.all_set (Store.all_set h (hk 0 (by omega))) (hk 1 (by omega)))
    (hk 2 (by omega))) (hk 3 (by omega))

theorem cellKey_page (ppn : Ppn) (off : BitVec 8) {j : Nat} (hj : j < 4) :
    (cellKey ppn off + j) / 1024 = ppn.toNat := by
  have := off.isLt
  unfold cellKey
  omega

/-! ### Bit 30 of the Location Counter -/

@[simp] theorem lcWithCount_bit30 (lc : Word) (c : BitVec 26) : (lcWithCount lc c)[30] = lc[30] := by
  simp only [← BitVec.getLsbD_eq_getElem, lcWithCount]
  rw [BitVec.getLsbD_append]
  simp

@[simp] theorem lcWithNeedFetch_bit30 (lc : Word) (b : Bool) : (lcWithNeedFetch lc b)[30] = lc[30] := by
  simp only [← BitVec.getLsbD_eq_getElem, lcWithNeedFetch]
  rw [BitVec.getLsbD_append]
  simp

@[simp] theorem lcStep_bit30 (lc : Word) : (lcStep lc)[30] = lc[30] := by simp [lcStep]

@[simp] theorem lcLoad_bit30 (lc out : Word) : (lcLoad lc out)[30] = lc[30] := by simp [lcLoad]

@[simp] theorem lcLoadFlags_bit30 (lc out : Word) : (lcLoadFlags lc out)[30] = lc[30] := by
  simp only [← BitVec.getLsbD_eq_getElem, lcLoadFlags]
  rw [BitVec.getLsbD_append, BitVec.getLsbD_append]
  simp

/-! ### The relation -/

/-- Whatever turned `s` into `t` kept the invariant, did not enable the PROM, and left the PROM and the parameters of
the run alone. -/
structure Keeps (s t : State) : Prop where
  inv : s.Inv → t.Inv
  promEnabled : t.promEnabled = true → s.promEnabled = true := by exact id
  prom : t.prom = s.prom := by rfl
  ramLast : t.ramLast = s.ramLast := by rfl
  pcHistoryDepth : t.pcHistoryDepth = s.pcHistoryDepth := by rfl

theorem Keeps.refl (s : State) : Keeps s s where
  inv := id

theorem Keeps.trans {s t u : State} (h : Keeps s t) (h' : Keeps t u) : Keeps s u where
  inv := h'.inv ∘ h.inv
  promEnabled := h.promEnabled ∘ h'.promEnabled
  prom := h'.prom.trans h.prom
  ramLast := h'.ramLast.trans h.ramLast
  pcHistoryDepth := h'.pcHistoryDepth.trans h.pcHistoryDepth

/-- `t` is `s` but for fields that `Keeps` does not speak of. -/
def quietFrame (s t : State) : Prop :=
  t = { s with
    uPc := t.uPc, p0 := t.p0, p1 := t.p1, p0Pc := t.p0Pc, p1Pc := t.p1Pc, noExecNext := t.noExecNext,
    oaLo := t.oaLo, oaLoSet := t.oaLoSet, oaHi := t.oaHi, oaHiSet := t.oaHiSet, run := t.run, cycles := t.cycles,
    q := t.q, vma := t.vma, md := t.md, newMd := t.newMd, newMdDelay := t.newMdDelay,
    dispatchConstant := t.dispatchConstant, opc := t.opc, pdlPtr := t.pdlPtr, pdlIndex := t.pdlIndex,
    spcPtr := t.spcPtr, accessFault := t.accessFault, writeFault := t.writeFault, pageFault := t.pageFault,
    cache := t.cache, pollFast := t.pollFast, pollSlow := t.pollSlow, devAnswers := t.devAnswers,
    devLog := t.devLog, freeCount := t.freeCount }

theorem Keeps.of_quiet {s t : State} (h : quietFrame s t) : Keeps s t := by
  rw [h]
  exact { inv := fun i => { i with } }

/-- A part of a cycle that begins with a quiet update. -/
theorem Keeps.after_quiet {s t u : State} (h : Keeps t u) (hq : quietFrame s t) : Keeps s u := (of_quiet hq).trans h

/-- A part of a cycle that ends with a quiet update. -/
theorem Keeps.then_quiet {s t u : State} (h : Keeps s t) (hq : quietFrame t u) : Keeps s u := h.trans (of_quiet hq)

theorem Keeps.of_sourceFrame {s t : State} (h : sourceFrame s t) : Keeps s t := by
  rw [h]
  exact .of_quiet rfl

/-! ### Register files, stacks and the Location Counter -/

theorem writeAMem_keeps (i : BitVec 10) (v : Word) (s : State) : Keeps s (writeAMem i v s) where
  inv h := { h with aMem := Store.wf_set _ _ _ _ h.aMem i.isLt }

theorem writeM_keeps (i : BitVec 5) (v : Word) (s : State) : Keeps s (writeM i v s) where
  inv h := { h with
    mMem := Store.wf_set _ _ _ _ h.mMem i.isLt
    aMem := Store.wf_set _ _ _ _ h.aMem (by omega) }

theorem writePdl_keeps (i : BitVec 10) (v : Word) (s : State) : Keeps s (writePdl i v s) where
  inv h := { h with pdl := Store.wf_set _ _ _ _ h.pdl i.isLt }

theorem spcPush_keeps (v : BitVec 19) (s : State) : Keeps s (spcPush v s) where
  inv h := { h with spc := Store.wf_set _ _ _ _ h.spc (s.spcPtr + 1).isLt }

theorem withLc_keeps {lc : Word} {s : State} (hl : lc.getLsbD 30 = s.lc.getLsbD 30) : Keeps s { s with lc := lc } where
  inv h := { h with lcBit30 := hl.trans h.lcBit30 }

/-! ### The interrupt controller -/

theorem setIsr_keeps {v : BitVec 16} {s : State} (hv : s.isr.getLsbD 1 = false → v.getLsbD 1 = false) :
    Keeps s (setIsr v s) where
  inv h := { h with pending := rfl, isrBit1 := hv h.isrBit1 }

theorem assertUnibus_keeps (vec : BitVec 16) (s : State) : Keeps s (assertUnibus vec s) := by
  unfold assertUnibus
  split
  · exact setIsr_keeps (by simp +contextual [isrVectorMask, isrUnibusPending])
  · exact .refl s

theorem deassertUnibus_keeps (s : State) : Keeps s (deassertUnibus s) := by
  unfold deassertUnibus
  split
  · exact setIsr_keeps (by simp +contextual)
  · exact .refl s

theorem assertXbus_keeps (s : State) : Keeps s (assertXbus s) :=
  setIsr_keeps (by simp +contextual [isrXbusPending])

theorem deassertXbus_keeps (s : State) : Keeps s (deassertXbus s) := by
  unfold deassertXbus
  split
  · exact setIsr_keeps (by simp +contextual)
  · exact .refl s

theorem disableProm_keeps (s : State) : Keeps s { s with promEnabled := false } where
  inv h := { h with }
  promEnabled := nofun

theorem unibusWrite_keeps (off : BitVec 8) (v : Word) (s : State) : Keeps s (unibusWrite off v s) := by
  unfold unibusWrite
  dsimp only
  split
  · exact setIsr_keeps (by simp +contextual [isrWriteMask20])
  split
  · exact setIsr_keeps (by simp +contextual [isrWriteMask21])
  split
  · split
    · exact disableProm_keeps s
    · exact .refl s
  · exact .refl s

/-! ### Pages and physical memory -/

theorem State.Inv.page_lt {s : State} (h : s.Inv) {p : Ppn} (hp : pageExists s p = true) : p.toNat < 8192 := by
  have hw := h.pages
  simp only [pagesWf, Bool.and_eq_true, List.all_eq_true, decide_eq_true_eq] at hw
  exact hw.2 _ (List.contains_iff_mem.mp hp)

theorem ensurePage_keeps (p : Ppn) (s : State) : Keeps s (ensurePage p s) := by
  unfold ensurePage
  split
  · next hp =>
    have grows : ∀ k, s.pages.contains k = true → (insertPage s.pages p.toNat).contains k = true := by
      simp +contextual [mem_insertPage]
    exact {
      inv := fun h => { h with
        pages := pagesWf_insertPage _ _ h.pages hp
        memPages := List.all_eq_true.mpr fun c hc => grows _ (List.all_eq_true.mp h.memPages c hc) } }
  · exact .refl s

/-- A RAM page exists after it is ensured: the parameter `ramLast` is below the page limit. -/
theorem pageExists_ensurePage {p : Ppn} {s : State} (h : isRamPage s p = true) :
    pageExists (ensurePage p s) p = true := by
  have hp : p.toNat < 8192 := Nat.lt_of_le_of_lt (of_decide_eq_true h) s.ramLast.isLt
  simp [pageExists, ensurePage_pages, hp, mem_insertPage]

theorem setPhysWord_keeps {p : Ppn} (off : BitVec 8) (v : Word) {s : State} (hp : pageExists s p = true) :
    Keeps s (setPhysWord p off v s) where
  inv h := { h with
    mem := Memory.wf_writeWord _ _ _ h.mem (by
      have := h.page_lt hp
      have := off.isLt
      unfold cellKey
      omega)
    memPages := all_writeWord (f := fun k => s.pages.contains (k / 1024)) v h.memPages fun j hj => by
      rw [cellKey_page p off hj]
      exact hp }

theorem ramRead_keeps (p : Ppn) (o : BitVec 8) (s : State) : Keeps s (ramRead p o s).2 := by
  unfold ramRead
  split
  · exact .refl s
  split
  · exact ensurePage_keeps p s
  · exact .refl s

theorem ramWrite_keeps (p : Ppn) (o : BitVec 8) (v : Word) (s : State) : Keeps s (ramWrite p o v s) := by
  unfold ramWrite
  split
  · next h => exact setPhysWord_keeps o v h
  split
  · next h => exact (ensurePage_keeps p s).trans (setPhysWord_keeps o v (pageExists_ensurePage h))
  · exact .refl s

/-! ### Devices -/

section Runner

variable {run : CallRunner} (hr : ∀ cs s, Keeps s (run cs s))
include hr

theorem physReadWith_keeps (p : Ppn) (o : BitVec 8) (va : BitVec 24) (s : State) :
    Keeps s (physReadWith run p o va s).2 := by
  unfold physReadWith
  split
  · simp only [deviceReadWith]
    split
    · exact .of_quiet rfl
    · exact (hr _ _).after_quiet rfl
  split
  · exact .refl s
  · exact ramRead_keeps p o s

theorem physWriteWith_keeps (p : Ppn) (o : BitVec 8) (v : Word) (va : BitVec 24) (s : State) :
    Keeps s (physWriteWith run p o v va s) := by
  unfold physWriteWith
  split
  · simp only [deviceWriteWith]
    split
    · exact .of_quiet rfl
    · exact (hr _ _).after_quiet rfl
  split
  · exact unibusWrite_keeps o v s
  · exact ramWrite_keeps p o v s

theorem devCallWith_keeps (c : DevCall) (s : State) : Keeps s (devCallWith run c s) := by
  cases c with
  | assertUnibus v => exact assertUnibus_keeps v s
  | deassertUnibus => exact deassertUnibus_keeps s
  | assertXbus => exact assertXbus_keeps s
  | deassertXbus => exact deassertXbus_keeps s
  | readPhy p o => exact physReadWith_keeps hr p o 0 s
  | writePhy p o v => exact physWriteWith_keeps hr p o v 0 s
  | ensurePage p => exact ensurePage_keeps p s
  | writeA i v => exact writeAMem_keeps i v s

theorem devCallsWith_keeps (cs : List DevCall) (s : State) : Keeps s (devCallsWith run cs s) := by
  induction cs generalizing s with
  | nil => exact .refl s
  | cons c cs ih => exact (devCallWith_keeps hr c s).trans (ih _)

end Runner

theorem devCalls_keeps (cs : List DevCall) (s : State) : Keeps s (devCalls cs s) := by
  suffices H : ∀ depth cs s, Keeps s (devCallsDepth depth cs s) from H _ cs s
  intro depth
  induction depth with
  | zero => exact devCallsWith_keeps fun _ s => .refl s
  | succ depth ih => exact devCallsWith_keeps ih

/-! ### Memory cycles and map writes -/

theorem cycleStart_keeps (va : BitVec 24) (s : State) : Keeps s (noteWalk va (clearFaults s)) := by
  rw [noteWalk_eq]
  exact .of_quiet rfl

theorem raiseFault_keeps (f : MemFault) (p : Ppn) (s : State) : Keeps s (raiseFault f p s) := by
  cases f <;> exact .of_quiet rfl

theorem memRead_keeps (va : BitVec 24) (s : State) : Keeps s (memRead va s).2 := by
  rcases memRead_cases va s with ⟨_, e⟩ | ⟨_, e⟩ <;> rw [e]
  · exact (cycleStart_keeps va s).trans (raiseFault_keeps .access _ _)
  · exact (cycleStart_keeps va s).trans (physReadWith_keeps devCalls_keeps _ _ _ _)

theorem memWrite_keeps (va : BitVec 24) (v : Word) (s : State) : Keeps s (memWrite va v s) := by
  rcases memWrite_cases va v s with ⟨_, e⟩ | ⟨_, _, e⟩ | ⟨_, _, e⟩ <;> rw [e]
  · exact (cycleStart_keeps va s).trans (raiseFault_keeps _ _ _)
  · exact (cycleStart_keeps va s).trans (raiseFault_keeps _ _ _)
  · exact (cycleStart_keeps va s).trans (physWriteWith_keeps devCalls_keeps _ _ _ _ _)

theorem startRead_keeps (s : State) : Keeps s (startRead s) := by
  have hm := memRead_keeps (cycleAddress s) s
  rcases startRead_cases s with ⟨t, h, e⟩ | ⟨v, t, h, e⟩ <;> rw [h] at hm <;> rw [e]
  · exact hm
  · exact hm.then_quiet rfl

theorem startWrite_keeps (s : State) : Keeps s (startWrite s) := memWrite_keeps _ _ s

theorem writeLevel1_keeps (s : State) : Keeps s (writeLevel1 s) := by
  unfold writeLevel1
  split
  · exact { inv := fun h => { h with l1 := Store.wf_set _ _ _ _ h.l1 (BitVec.isLt _) } }
  · exact .refl s

theorem writeLevel2_keeps (s : State) : Keeps s (writeLevel2 s) := by
  unfold writeLevel2
  split
  · refine Keeps.trans ?_ (ensurePage_keeps _ _)
    exact { inv := fun h => { h with l2 := Store.wf_set _ _ _ _ h.l2 (BitVec.isLt _) } }
  · exact .refl s

theorem writeMap_keeps (s : State) : Keeps s (writeMap s) := (writeLevel1_keeps s).trans (writeLevel2_keeps _)

/-! ### Advance and return -/

theorem advanceLc_keeps (v : BitVec 19) (s : State) : Keeps s (advanceLc v s).2 := by
  rcases advanceLc_cases v s with ⟨_, t, ht, e⟩ | ⟨_, e⟩ <;> rw [e]
  · have hs : Keeps s t := by
      rw [ht]
      refine Keeps.trans ?_ (startRead_keeps _)
      exact { inv := fun h => { h with lcBit30 := by simpa using h.lcBit30 } }
    dsimp only
    split
    · exact hs.trans (withLc_keeps (by simp))
    · exact hs
  · exact withLc_keeps (by split <;> simp)

theorem popReturn_keeps (s : State) : Keeps s (popReturn s).2 := by
  rcases popReturn_cases s with ⟨_, e⟩ | ⟨_, e⟩ <;> rw [e]
  · exact .of_quiet rfl
  · exact (advanceLc_keeps _ (spcDrop s)).after_quiet rfl

theorem popjIf_keeps (popj : Bool) (s : State) : Keeps s (popjIf popj s) := by
  cases popj
  · exact .refl s
  · exact (popReturn_keeps s).then_quiet rfl

/-! ### Words that drive the output bus -/

theorem functionalDest_keeps (f : FDest) (out : Word) (s : State) : Keeps s (functionalDest f out s) := by
  cases f
  case lc => exact withLc_keeps (by simp)
  case interruptControl => exact withLc_keeps (by simp)
  case pdlByPointer => exact writePdl_keeps _ _ _
  case pdlByPointerPush => exact (writePdl_keeps _ _ _).after_quiet rfl
  case pdlByIndex => exact writePdl_keeps _ _ _
  case spcPush => exact spcPush_keeps _ _
  case vmaStartRead => exact (startRead_keeps _).after_quiet rfl
  case vmaStartWrite => exact (startWrite_keeps _).after_quiet rfl
  case vmaWriteMap => exact (writeMap_keeps _).after_quiet rfl
  case mdStartRead => exact (startRead_keeps _).after_quiet rfl
  case mdStartWrite => exact (startWrite_keeps _).after_quiet rfl
  case mdWriteMap => exact (writeMap_keeps _).after_quiet rfl
  all_goals exact .of_quiet rfl

theorem writeDest_keeps (d : Dest) (out : Word) (s : State) : Keeps s (writeDest d out s) := by
  cases d with
  | a _ i => exact writeAMem_keeps i out s
  | fn f m => exact (functionalDest_keeps f out s).trans (writeM_keeps m out _)
  | reserved _ m => exact writeM_keeps m out s

theorem busWrites_keeps (op : BusOp) (d : Dest) (m : Word) (s : State) : Keeps s (busWrites op d m s) := by
  unfold busWrites
  split
  · exact .refl s
  · exact (writeDest_keeps d _ _).after_quiet rfl

theorem finishBus_keeps (popj : Bool) (op : BusOp) (d : Dest) (m : Word) (s : State) :
    Keeps s (finishBus popj op d m s) :=
  (busWrites_keeps op d m s).trans (popjIf_keeps popj _)

/-! ### Transfers and dispatch -/

theorem resolveJump_keeps (target : MicroPc) (r p n take : Bool) (s : State) :
    Keeps s (resolveJump target r p n take none s) := by
  unfold resolveJump
  extract_lets s1 s2 pop
  have h1 : Keeps s s1 := by
    simp only [s1]
    split
    · exact spcPush_keeps _ s
    · exact .refl s
  have h2 : Keeps s1 pop.2 := by
    simp only [pop]
    split
    · exact popReturn_keeps s2
    · exact .refl s1
  split
  · exact (h1.trans h2).then_quiet rfl
  · exact h1.trans h2

theorem writeUcode_keeps (c : Bool) (pc : MicroPc) (w : Microword) (s : State) :
    Keeps s { s with ucode := if c then s.ucode.set pc.toNat w else s.ucode } where
  inv h := { h with
    ucode := by
      cases c
      · exact h.ucode
      · exact Store.wf_set _ _ _ _ h.ucode pc.isLt }

theorem finishJump_keeps (popj : Bool) (op : JumpOp) (m : Word) (s : State) : Keeps s (finishJump popj op m s) := by
  unfold finishJump
  extract_lets a take s1 s2
  have h2 : Keeps s s2 := by
    simp only [s2, s1, resolveJump_selfWrite]
    exact ((writeUcode_keeps _ _ _ s).trans (resolveJump_keeps _ _ _ _ _ _)).trans (popjIf_keeps _ _)
  split
  · exact h2.then_quiet rfl
  · exact h2

theorem finishDispatch_keeps (popj : Bool) (kind : DispKind) (b : DispBits) (m : Word) (s : State) :
    Keeps s (finishDispatch popj kind b m s) := by
  unfold finishDispatch
  extract_lets e target n p r s1 s2 s3 s4
  have h1 : Keeps s s1 := by
    simp only [s1]
    split
    · rw [noteWalk_eq]
      exact .of_quiet rfl
    · exact .refl s
  have h2 : Keeps s1 s2 := .of_quiet rfl
  have h3 : Keeps s2 s3 := by
    simp only [s3]
    split <;> exact .of_quiet rfl
  have h4 : Keeps s3 s4 := by
    simp only [s4]
    split
    · exact advanceLc_keeps 0 s3
    · exact .refl s3
  have h : Keeps s s4 := ((h1.trans h2).trans h3).trans h4
  clear_value s4
  split
  · have marked : Keeps s { s4 with noExecNext := n || s4.noExecNext } := h.then_quiet rfl
    exact marked.trans (popjIf_keeps popj _)
  · exact h.trans (resolveJump_keeps _ _ _ _ _ _)

theorem dispatchWrite_keeps (popj : Bool) (b : DispBits) (s : State) : Keeps s (dispatchWrite popj b s) := by
  refine Keeps.trans ?_ (popjIf_keeps popj _)
  exact { inv := fun h => { h with dmem := Store.wf_set _ _ _ _ h.dmem b.daddr.isLt } }

/-! ### Any instruction, and the cycle around it -/

theorem afterRead_keeps (popj : Bool) (body : Body) (m : Word) (s : State) : Keeps s (afterRead popj body m s) := by
  cases body with
  | bus op d => exact finishBus_keeps popj op d m s
  | jump op => exact finishJump_keeps popj op m s
  | disp op =>
    obtain ⟨kind, b⟩ := op
    cases kind with
    | write => exact dispatchWrite_keeps popj b s
    | normal | misc1 | posmod => exact finishDispatch_keeps popj _ b m s

/-- A word is its M-source read and what `afterRead` names, but for a dispatch-memory write, which reads no M-source
(R144, R281). -/
theorem runMicro_eq_afterRead (w : Micro) (s : State) :
    runMicro w s =
      if isDispatchWrite w.body then afterRead w.head.popj w.body 0 s
      else afterRead w.head.popj w.body (readM w.head.src s).1 (readM w.head.src s).2 := by
  obtain ⟨h, body⟩ := w
  cases body with
  | bus op d => cases op <;> rfl
  | jump op => rfl
  | disp op =>
    obtain ⟨kind, b⟩ := op
    cases kind <;> rfl

theorem runMicro_keeps (w : Micro) (s : State) : Keeps s (runMicro w s) := by
  rw [runMicro_eq_afterRead]
  split
  · exact afterRead_keeps _ _ _ s
  · exact (Keeps.of_sourceFrame (readM_frame w.head.src s)).trans (afterRead_keeps _ _ _ _)

/-- What an instruction can do: nothing, if it is a NOP, and else what the fields of its word say. -/
theorem exec_next_cases {i : Instr} {s t : State} (h : exec i s = .next t) : t = s ∨ t = runMicro i.micro s := by
  by_cases hn : ∃ b b', i = .nop b b'
  · obtain ⟨b, b', rfl⟩ := hn
    exact .inl (Host.Outcome.next.inj h).symm
  · rw [exec_eq_runMicro i s fun b b' e => hn ⟨b, b', e⟩] at h
    exact .inr (Host.Outcome.next.inj h).symm

theorem exec_keeps {i : Instr} {s t : State} (h : exec i s = .next t) : Keeps s t := by
  rcases exec_next_cases h with rfl | rfl
  · exact .refl t
  · exact runMicro_keeps i.micro s

theorem pollFast_keeps (s : State) : Keeps s (pollFast s) := (devCalls_keeps _ _).after_quiet rfl

theorem pollSlow_keeps (s : State) : Keeps s (pollSlow s) := by
  unfold pollSlow
  split
  · exact (devCalls_keeps _ _).after_quiet rfl
  · exact .refl s

theorem poll_keeps (s : State) : Keeps s (poll s) := (pollFast_keeps s).trans (pollSlow_keeps _)

theorem delayedMdLoad_keeps (s : State) : Keeps s (delayedMdLoad s) := by
  rw [delayedMdLoad_eq]
  exact .of_quiet rfl

theorem stall_keeps (s : State) : Keeps s (stall s) := by
  unfold stall
  split
  · exact .of_quiet rfl
  · exact .refl s

theorem recordHistory_keeps (s : State) : Keeps s (recordHistory s) where
  inv h := { h with
    pcHistory := List.length_take_le _ _
    macroHistory := List.length_take_le _ _ }

/-- Everything of a cycle before the NOP test, in its order (R130). -/
theorem prepare_keeps (s : State) : Keeps s (prepare s) := by
  have polled := (poll_keeps s).then_quiet (u := countCycle (poll s)) rfl
  have loaded := polled.trans (delayedMdLoad_keeps _)
  have advanced := loaded.then_quiet (u := advancePipe (delayedMdLoad (countCycle (poll s)))) rfl
  have stalled := advanced.trans (stall_keeps _)
  have merged := stalled.then_quiet (u := mergeOa (stall (advancePipe (delayedMdLoad (countCycle (poll s)))))) rfl
  exact merged.trans (recordHistory_keeps _)

/-- One cycle keeps everything; a halted core keeps its state (R146). -/
theorem step_keeps {s t : State} (h : step s = .next t) : Keeps s t := by
  unfold step at h
  split at h
  · exact (prepare_keeps s).trans (exec_keeps h)
  · cases h
    exact .refl s

/-- Settles O12, by `step_keeps`. -/
theorem everyStepKeepsTheInvariant : Obligations.EveryStepKeepsTheInvariant :=
  fun _ _ hi h => (step_keeps h).inv hi

/-- Settles O11, by `step_keeps`. -/
theorem promIsKept : Obligations.PromIsKept := fun _ _ h =>
  have k := step_keeps h
  ⟨k.prom, k.promEnabled, k.ramLast, k.pcHistoryDepth⟩

end Sys2Proof.Machine

/-! SUPPORT. The SPC stack as a ring of 32 entries (R25, R26). -/

namespace Sys2Proof.Machine

/-- Below the top of the stack the entries are those pushed, the latest first, as far as 32 entries go. -/
theorem spc_get_pushed (ws : List (BitVec 19)) (s : State) {k : Nat} (h : k < ws.length) (hk : k < 32) :
    (ws.foldr spcPush s).spc.get ((ws.foldr spcPush s).spcPtr - BitVec.ofNat 5 k).toNat = ws[k] := by
  induction ws generalizing k with
  | nil => exact absurd h (Nat.not_lt_zero k)
  | cons w ws ih =>
    cases k with
    | zero => simp
    | succ k =>
      have below := ih (k := k) (by simpa using h) (by omega)
      simp only [List.foldr_cons, spcPush_spc, spcPush_spcPtr, List.getElem_cons_succ]
      generalize ws.foldr spcPush s = u at below ⊢
      have same : u.spcPtr + 1 - BitVec.ofNat 5 (k + 1) = u.spcPtr - BitVec.ofNat 5 k := by bv_omega
      have other : (u.spcPtr - BitVec.ofNat 5 k).toNat ≠ (u.spcPtr + 1).toNat := by bv_omega
      rw [same, Store.get_set_ne _ _ other, below]

/-- Pops move the pointer and leave the entries (R26). -/
theorem repeat_spcDrop (k : Nat) (s : State) :
    Nat.repeat spcDrop k s = { s with spcPtr := s.spcPtr - BitVec.ofNat 5 k } := by
  induction k with
  | zero => simp [Nat.repeat]
  | succ k ih =>
    have moved : s.spcPtr - BitVec.ofNat 5 k - 1 = s.spcPtr - BitVec.ofNat 5 (k + 1) := by bv_omega
    simp only [Nat.repeat, ih, spcDrop, moved]

/-- Settles O27, by induction on the pushes from the last one back. -/
theorem spcIsARing : Obligations.SpcIsARing := by
  intro vs s k h hk
  have entry := spc_get_pushed vs.reverse s (by simpa using h) hk
  rw [List.foldr_reverse, List.getElem_reverse] at entry
  rw [repeat_spcDrop]
  exact entry

end Sys2Proof.Machine

/-! SUPPORT. The state after reset (R50, R391), bare and with a PROM image. -/

namespace Sys2Proof.Machine

/-- Settles O14: each value is the one `State.reset` is written with. -/
theorem resetValues : Obligations.ResetValues := by
  rintro s rfl
  simp [State.reset]

theorem State.reset_inv : State.Inv State.reset := by
  constructor <;> simp [State.reset, pagesWf, pagesRising, Memory.wf, isrPending]

/-- Words loaded from an index on keep the canonical form, as far as they fit. -/
theorem loadWords_wf {size at_ : Nat} {words : List Microword} {m : Store 48} (h : Store.wf size m = true)
    (fits : at_ + words.length ≤ size) : Store.wf size (loadWords m at_ words) = true := by
  induction words generalizing m at_ with
  | nil => exact h
  | cons w rest ih =>
    rw [List.length_cons] at fits
    exact ih (Store.wf_set _ _ _ _ h (by omega)) (by omega)

theorem loadProm_inv (words : List Microword) {s : State} (h : s.Inv) : (loadProm words s).Inv :=
  { h with prom := loadWords_wf (Store.wf_nil 512) (by simp) }

/-- Settles O13: the bare state by its fields, the image by induction on its words. -/
theorem resetMeetsTheInvariant : Obligations.ResetMeetsTheInvariant :=
  ⟨State.reset_inv, fun words => loadProm_inv words State.reset_inv⟩

end Sys2Proof.Machine

/-! SUPPORT. Which instruction writes Q, the dispatch memory, the writable store and the maps (R17, R27, R29, R35,
R36): the frames of `Laws/Frames.lean` leave each of them alone, but for the one class of word that writes it. -/

namespace Sys2Proof.Machine

/-! ### Parts of an instruction that write none of them -/

/-- `t` holds the Q register, the PROM and the control stores of `s`. -/
structure SameStores (s t : State) : Prop where
  q : t.q = s.q := by rfl
  prom : t.prom = s.prom := by rfl
  dmem : t.dmem = s.dmem := by rfl
  ucode : t.ucode = s.ucode := by rfl
  l1 : t.l1 = s.l1 := by rfl
  l2 : t.l2 = s.l2 := by rfl

theorem SameStores.of_sourceFrame {s t : State} (h : sourceFrame s t) : SameStores s t := by
  rw [h]
  exact {}

theorem SameStores.of_controlFrame {s t : State} (h : controlFrame s t) : SameStores s t := by
  rw [h]
  exact {}

theorem SameStores.of_cycleFrame {s t : State} (h : cycleFrame s t) : SameStores s t :=
  of_controlFrame h.to_popFrame.to_controlFrame

theorem popjIf_stores (popj : Bool) (s : State) : SameStores s (popjIf popj s) :=
  .of_controlFrame (popjIf_frame popj s).to_controlFrame

/-! ### Words that drive the output bus -/

theorem functionalDest_maps {f : FDest} (hv : f ≠ .vmaWriteMap) (hm : f ≠ .mdWriteMap) (out : Word) (s : State) :
    (functionalDest f out s).l1 = s.l1 ∧ (functionalDest f out s).l2 = s.l2 := by
  have started : ∀ {u t : State}, cycleFrame u t → t.l1 = u.l1 ∧ t.l2 = u.l2 := fun h =>
    have same := SameStores.of_cycleFrame h
    ⟨same.l1, same.l2⟩
  cases f
  case vmaWriteMap => exact absurd rfl hv
  case mdWriteMap => exact absurd rfl hm
  case vmaStartRead => exact started (u := { s with vma := out }) (startRead_frame _)
  case vmaStartWrite => exact started (u := { s with vma := out }) (startWrite_frame _)
  case mdStartRead => exact started (u := { s with md := out }) (startRead_frame _)
  case mdStartWrite => exact started (u := { s with md := out }) (startWrite_frame _)
  all_goals exact ⟨rfl, rfl⟩

theorem writeDest_maps {d : Dest} (h : ∀ ma, d ≠ .fn .vmaWriteMap ma ∧ d ≠ .fn .mdWriteMap ma) (out : Word)
    (s : State) : (writeDest d out s).l1 = s.l1 ∧ (writeDest d out s).l2 = s.l2 := by
  cases d with
  | a _ _ => exact ⟨rfl, rfl⟩
  | fn f ma => exact functionalDest_maps (fun e => (h ma).1 (e ▸ rfl)) (fun e => (h ma).2 (e ▸ rfl)) out s
  | reserved _ _ => exact ⟨rfl, rfl⟩

theorem busWrites_maps (op : BusOp) {d : Dest} (h : ∀ ma, d ≠ .fn .vmaWriteMap ma ∧ d ≠ .fn .mdWriteMap ma)
    (m : Word) (s : State) : (busWrites op d m s).l1 = s.l1 ∧ (busWrites op d m s).l2 = s.l2 := by
  unfold busWrites
  split
  · exact ⟨rfl, rfl⟩
  · next out q _ => exact writeDest_maps h out { s with q := q }

/-- An ALU or BYTE word writes neither the PROM nor the dispatch memory nor the writable store, and a BYTE word leaves
Q. -/
theorem busWrites_stores (op : BusOp) (d : Dest) (m : Word) (s : State) :
    SameStores { s with q := (busWrites op d m s).q, l1 := (busWrites op d m s).l1, l2 := (busWrites op d m s).l2 }
        (busWrites op d m s) ∧
      ∀ b, op = .byte b → (busWrites op d m s).q = s.q := by
  obtain ⟨q, frame, byteKeepsQ⟩ := busWrites_frame op d m s
  generalize busWrites op d m s = t at frame
  rw [frame]
  exact ⟨{}, byteKeepsQ⟩

/-! ### Every class of word -/

/-- Between `s` and `t` each store changed only if the word with the class part `body` is the one that writes it. -/
structure WrittenBy (body : Body) (s t : State) : Prop where
  prom : t.prom = s.prom
  q : (∀ op d, body ≠ .bus (.alu op) d) → t.q = s.q
  dmem : (∀ b, body ≠ .disp ⟨.write, b⟩) → t.dmem = s.dmem
  ucode : (∀ op : JumpOp, body = .jump op → (op.p && op.r) = false) → t.ucode = s.ucode
  maps : (∀ op ma, body ≠ .bus op (.fn .vmaWriteMap ma) ∧ body ≠ .bus op (.fn .mdWriteMap ma)) →
    t.l1 = s.l1 ∧ t.l2 = s.l2

theorem WrittenBy.of_same {body : Body} {s t : State} (h : SameStores s t) : WrittenBy body s t where
  prom := h.prom
  q _ := h.q
  dmem _ := h.dmem
  ucode _ := h.ucode
  maps _ := ⟨h.l1, h.l2⟩

theorem WrittenBy.trans {body : Body} {s t u : State} (h : WrittenBy body s t) (h' : WrittenBy body t u) :
    WrittenBy body s u where
  prom := h'.prom.trans h.prom
  q c := (h'.q c).trans (h.q c)
  dmem c := (h'.dmem c).trans (h.dmem c)
  ucode c := (h'.ucode c).trans (h.ucode c)
  maps c := ⟨(h'.maps c).1.trans (h.maps c).1, (h'.maps c).2.trans (h.maps c).2⟩

theorem finishBus_writtenBy (popj : Bool) (op : BusOp) (d : Dest) (m : Word) (s : State) :
    WrittenBy (.bus op d) s (finishBus popj op d m s) := by
  obtain ⟨same, byteKeepsQ⟩ := busWrites_stores op d m s
  refine WrittenBy.trans (t := busWrites op d m s) ?_ (.of_same (popjIf_stores popj _))
  exact {
    prom := same.prom
    q := fun notAlu => by
      cases op with
      | alu op => exact absurd rfl (notAlu op d)
      | byte b => exact byteKeepsQ b rfl
    dmem := fun _ => same.dmem
    ucode := fun _ => same.ucode
    maps := fun notMap =>
      busWrites_maps op (fun ma => ⟨fun e => (notMap op ma).1 (e ▸ rfl), fun e => (notMap op ma).2 (e ▸ rfl)⟩) m s }

theorem finishJump_writtenBy (popj : Bool) (op : JumpOp) (m : Word) (s : State) :
    WrittenBy (.jump op) s (finishJump popj op m s) :=
  have same := SameStores.of_controlFrame (finishJump_frame popj op m s)
  { prom := same.prom
    q := fun _ => same.q
    dmem := fun _ => same.dmem
    ucode := fun noSelfWrite => by rw [same.ucode, noSelfWrite op rfl]; rfl
    maps := fun _ => ⟨same.l1, same.l2⟩ }

theorem dispatchWrite_writtenBy (popj : Bool) (b : DispBits) (s : State) :
    WrittenBy (.disp ⟨.write, b⟩) s (dispatchWrite popj b s) :=
  have same := popjIf_stores popj { s with dmem := s.dmem.set b.daddr.toNat ((readA b.dconst s).extractLsb' 0 17) }
  { prom := same.prom
    q := fun _ => same.q
    dmem := fun notWrite => absurd rfl (notWrite b)
    ucode := fun _ => same.ucode
    maps := fun _ => ⟨same.l1, same.l2⟩ }

theorem afterRead_writtenBy (popj : Bool) (body : Body) (m : Word) (s : State) :
    WrittenBy body s (afterRead popj body m s) := by
  cases body with
  | bus op d => exact finishBus_writtenBy popj op d m s
  | jump op => exact finishJump_writtenBy popj op m s
  | disp op =>
    obtain ⟨kind, b⟩ := op
    cases kind with
    | write => exact dispatchWrite_writtenBy popj b s
    | normal | misc1 | posmod => exact .of_same (.of_controlFrame (finishDispatch_frame popj _ b m s))

theorem runMicro_writtenBy (w : Micro) (s : State) : WrittenBy w.body s (runMicro w s) := by
  rw [runMicro_eq_afterRead]
  split
  · exact afterRead_writtenBy _ _ _ s
  · exact WrittenBy.trans (.of_same (.of_sourceFrame (readM_frame w.head.src s))) (afterRead_writtenBy _ _ _ _)

theorem exec_writtenBy {i : Instr} {s t : State} (h : exec i s = .next t) : WrittenBy i.micro.body s t := by
  rcases exec_next_cases h with rfl | rfl
  · exact .of_same {}
  · exact runMicro_writtenBy i.micro s

/-- Settles O41, by `exec_writtenBy`. -/
theorem qChangesOnlyInTheAluClass : Obligations.QChangesOnlyInTheAluClass :=
  fun _ _ _ notAlu h => (exec_writtenBy h).q notAlu

/-- Settles O44: the stores by `exec_writtenBy`, a poll and the calls of a device by their frames. -/
theorem controlStoresHaveOneWriter : Obligations.ControlStoresHaveOneWriter := by
  refine ⟨fun i s t h => ?_, poll_frame, devCalls_frame⟩
  have written := exec_writtenBy h
  exact ⟨written.prom, written.dmem, written.ucode, written.maps⟩

end Sys2Proof.Machine

/-! SUPPORT. The address translator: the windows (R66), the table walk (R67, R68), and the walk that follows a map
write (R324). -/

namespace Sys2Proof.Machine

open Sys2Proof.Ruled

/-! ### The hardwired windows -/

/-- A window test keeps the bits from `k` on: it asks for one value of them. -/
theorem and_topMask_of_div_eq {va : BitVec 24} {k c : Nat} (h : va.toNat / 2 ^ k = c) :
    va &&& BitVec.allOnes 24 <<< k = BitVec.ofNat 24 c <<< k := by
  have top : va >>> k = BitVec.ofNat 24 c := by
    apply BitVec.eq_of_toNat_eq
    have := va.isLt
    rw [BitVec.toNat_ushiftRight, Nat.shiftRight_eq_div_pow, BitVec.toNat_ofNat, h, Nat.mod_eq_of_lt]
    exact h ▸ Nat.lt_of_le_of_lt (Nat.div_le_self _ _) this
  rw [← top, BitVec.shiftLeft_ushiftRight]

theorem windowBase_of_770 {va : BitVec 24} (h : va.toNat / 2 ^ 15 = 0o770) : windowBase va = some 0o36000 := by
  have top : va &&& 0o77700000 = 0o77000000 := and_topMask_of_div_eq h
  rw [windowBase, if_pos top]

theorem windowBase_of_772 {va : BitVec 24} (h : va.toNat / 2 ^ 15 = 0o772) : windowBase va = some 0o36000 := by
  have top : va &&& 0o77700000 = 0o77200000 := and_topMask_of_div_eq h
  rw [windowBase, top, if_neg (by decide), if_pos rfl]

theorem windowBase_of_773774 {va : BitVec 24} (h : va.toNat / 2 ^ 8 = 0o77377400 / 2 ^ 8) :
    windowBase va = some 0o36777 := by
  have top : va &&& 0o77700000 = 0o77300000 := and_topMask_of_div_eq (k := 15) (c := 0o773) (by omega)
  have low : va &&& 0o77777400 = 0o77377400 := and_topMask_of_div_eq h
  rw [windowBase, top, if_neg (by decide), if_neg (by decide), if_pos low]

theorem translateVa_of_window {va : BitVec 24} {base : Ppn} (h : windowBase va = some base) (s : State) :
    translateVa s va = ⟨base, true, true, va.extractLsb' 0 8, 0, 0xC00000 ||| base.setWidth 24⟩ := by
  simp [translateVa, h]

/-- Settles O46, window by window. -/
theorem hardwiredWindows : Obligations.HardwiredWindows := by
  refine fun s va => ⟨fun h => ?_, fun h => ?_⟩
  · have base : windowBase va = some 0o36000 := h.elim windowBase_of_770 windowBase_of_772
    exact translateVa_of_window base s
  · exact translateVa_of_window (windowBase_of_773774 h) s

/-! ### The table walk -/

theorem l1Index_eq_div (va : BitVec 24) : l1Index va = va.toNat / 2 ^ 13 := by
  have := va.isLt
  rw [l1Index, BitVec.extractLsb'_toNat, Nat.shiftRight_eq_div_pow]
  omega

theorem l2Index_eq_add (bucket : BitVec 5) (va : BitVec 24) :
    l2Index bucket va = bucket.toNat * 32 + va.toNat / 2 ^ 8 % 32 := by
  rw [l2Index, BitVec.toNat_append, BitVec.extractLsb'_toNat, Nat.shiftRight_eq_div_pow,
    ← Nat.shiftLeft_add_eq_or_of_lt (Nat.mod_lt _ (by decide)), Nat.shiftLeft_eq]

theorem translateVa_of_tableWalked {va : BitVec 24} (h : tableWalked va = true) (s : State) :
    let l1 := s.l1.get (l1Index va)
    let l2 := s.l2.get (l2Index l1 va)
    translateVa s va = ⟨l2.extractLsb' 0 14, l2.getLsbD 23, l2.getLsbD 22, va.extractLsb' 0 8, l1, l2⟩ := by
  have outside : windowBase va = none := eq_of_beq h
  simp [translateVa, outside]

/-- Settles O45: the walk, with its two indexes as quotients. -/
theorem tableWalk : Obligations.TableWalk := by
  intro s va h
  rw [translateVa_of_tableWalked h s]
  refine ⟨?_, ?_, rfl, rfl, rfl, ?_⟩
  · simp only [l1Index_eq_div]
  · simp only [l2Index_eq_add]
  · simp [BitVec.extractLsb'_toNat]

/-! ### After a map write -/

/-- The level-1 entry of the mapped address after a map write. -/
def writtenBucket (s : State) : BitVec 5 :=
  if s.vma.getLsbD 26 then s.vma.extractLsb' 27 5 else s.l1.get (l1Index (mapAddress s))

theorem writeLevel1_entry (s : State) : (writeLevel1 s).l1.get (l1Index (mapAddress s)) = writtenBucket s := by
  unfold writeLevel1 writtenBucket
  split
  · simp [invalidateCache]
  · rfl

theorem writeLevel1_frame (s : State) :
    writeLevel1 s = { s with l1 := (writeLevel1 s).l1, cache := (writeLevel1 s).cache } := by
  unfold writeLevel1
  split <;> rfl

theorem writeLevel2_l1 (s : State) : (writeLevel2 s).l1 = s.l1 := by
  unfold writeLevel2
  split
  · rw [ensurePage_eq]; rfl
  · rfl

theorem writeLevel2_l2 {s : State} (h : s.vma.getLsbD 25 = true) :
    (writeLevel2 s).l2 =
      s.l2.set (l2Index (s.l1.get (l1Index (mapAddress s))) (mapAddress s)) (s.vma.extractLsb' 0 24) := by
  rw [writeLevel2, if_pos h, ensurePage_eq]
  rfl

theorem writeMap_l1_entry (s : State) : (writeMap s).l1.get (l1Index (mapAddress s)) = writtenBucket s := by
  rw [writeMap, writeLevel2_l1, writeLevel1_entry]

theorem writeMap_l2_entry {s : State} (h : s.vma.getLsbD 25 = true) :
    (writeMap s).l2.get (l2Index (writtenBucket s) (mapAddress s)) = s.vma.extractLsb' 0 24 := by
  have vma : (writeLevel1 s).vma = s.vma := by rw [writeLevel1_frame]
  have address : mapAddress (writeLevel1 s) = mapAddress s := by rw [writeLevel1_frame]; rfl
  have entry := writeLevel1_entry s
  rw [writeMap, writeLevel2_l2 (vma ▸ h), address, entry, vma, Store.get_set_self]

/-- Settles O56: the walk finds the two entries just written. -/
theorem mapWriteIsSeenAtOnce : Obligations.MapWriteIsSeenAtOnce := by
  intro s level2 outside
  rw [translateVa_of_tableWalked outside, writeMap_l1_entry, writeMap_l2_entry level2]
  simp [mapAddress, writtenBucket]

end Sys2Proof.Machine

/-! SUPPORT. Memory cycles (R72 to R74, R80 to R82): what an access of a page does, by the kind of page, and what a
started cycle does, by the permissions; the statements about denied, backed, absent and device pages put the two
together. -/

namespace Sys2Proof.Machine

open Sys2Proof.Ruled

/-! ### Accesses of a physical page -/

theorem physRead_of_ordinary {p : Ppn} (h : ordinaryPage p = true) (o : BitVec 8) (va : BitVec 24) (s : State) :
    physRead p o va s = ramRead p o s := by
  obtain ⟨noDevice, noUnibus⟩ : isDevicePage p = false ∧ p ≠ unibusPage := by simpa [ordinaryPage] using h
  simp [physRead, physReadWith, noDevice, noUnibus]

theorem physWrite_of_ordinary {p : Ppn} (h : ordinaryPage p = true) (o : BitVec 8) (v : Word) (va : BitVec 24)
    (s : State) : physWrite p o v va s = ramWrite p o v s := by
  obtain ⟨noDevice, noUnibus⟩ : isDevicePage p = false ∧ p ≠ unibusPage := by simpa [ordinaryPage] using h
  simp [physWrite, physWriteWith, noDevice, noUnibus]

theorem backedPage_iff (s : State) (p : Ppn) :
    backedPage s p = true ↔ ordinaryPage p = true ∧ (pageExists s p = true ∨ isRamPage s p = true) := by
  simp [backedPage]

theorem ensurePage_of_ram {s : State} {p : Ppn} (h : isRamPage s p = true) :
    ensurePage p s = { s with pages := insertPage s.pages p.toNat } := by
  have below : p.toNat < 8192 := Nat.lt_of_le_of_lt (of_decide_eq_true h) s.ramLast.isLt
  rw [ensurePage, if_pos below]

/-- The read of a page that holds memory or is RAM: a first access gives 0 and allocates the page (R72). -/
theorem physRead_of_backed {s : State} {p : Ppn} (h : backedPage s p = true) (o : BitVec 8) (va : BitVec 24) :
    physRead p o va s =
      (if pageExists s p then physWord s p o else 0, { s with pages := pagesAfter s p }) := by
  obtain ⟨ordinary, present⟩ := (backedPage_iff s p).mp h
  rw [physRead_of_ordinary ordinary, ramRead, pagesAfter]
  cases old : pageExists s p with
  | true => rfl
  | false =>
    have ram : isRamPage s p = true := present.resolve_left (by simp [old])
    simp [ram, ensurePage_of_ram ram]

/-- The write of such a page stores the word and allocates the page (R73). -/
theorem physWrite_of_backed {s : State} {p : Ppn} (h : backedPage s p = true) (o : BitVec 8) (v : Word)
    (va : BitVec 24) :
    physWrite p o v va s = { s with pages := pagesAfter s p, mem := writeWord s.mem (cellKey p o) v } := by
  obtain ⟨ordinary, present⟩ := (backedPage_iff s p).mp h
  rw [physWrite_of_ordinary ordinary, ramWrite, pagesAfter]
  cases old : pageExists s p with
  | true => rfl
  | false =>
    have ram : isRamPage s p = true := present.resolve_left (by simp [old])
    simp [ram, ensurePage_of_ram ram, setPhysWord]

theorem absent_of_not_backed {s : State} {p : Ppn} (ordinary : ordinaryPage p = true) (h : backedPage s p = false) :
    pageExists s p = false ∧ isRamPage s p = false := by
  simpa [backedPage, ordinary] using h

theorem physRead_of_absent {s : State} {p : Ppn} (ordinary : ordinaryPage p = true) (h : backedPage s p = false)
    (o : BitVec 8) (va : BitVec 24) : physRead p o va s = (nxmReadValue, s) := by
  obtain ⟨notExists, notRam⟩ := absent_of_not_backed ordinary h
  simp [physRead_of_ordinary ordinary, ramRead, notExists, notRam]

theorem physWrite_of_absent {s : State} {p : Ppn} (ordinary : ordinaryPage p = true) (h : backedPage s p = false)
    (o : BitVec 8) (v : Word) (va : BitVec 24) : physWrite p o v va s = s := by
  obtain ⟨notExists, notRam⟩ := absent_of_not_backed ordinary h
  simp [physWrite_of_ordinary ordinary, ramWrite, notExists, notRam]

/-- A device is asked once, and its calls run in the state in which its answer is taken (R74). -/
theorem physRead_of_device {s : State} {p : Ppn} (h : isDevicePage p = true) {v : Word} {calls : List DevCall}
    {rest : List DevAnswer} (answer : s.devAnswers = ⟨v, calls⟩ :: rest) (o : BitVec 8) (va : BitVec 24) :
    physRead p o va s = (v, devCalls calls { s with devAnswers := rest, devLog := .read p o va :: s.devLog }) := by
  simp [physRead, physReadWith, h, deviceReadWith, logAccess, answer]

theorem physWrite_of_device {s : State} {p : Ppn} (h : isDevicePage p = true) {v : Word} {calls : List DevCall}
    {rest : List DevAnswer} (answer : s.devAnswers = ⟨v, calls⟩ :: rest) (o : BitVec 8) (w : Word) (va : BitVec 24) :
    physWrite p o w va s = devCalls calls { s with devAnswers := rest, devLog := .write p o w va :: s.devLog } := by
  simp [physWrite, physWriteWith, h, deviceWriteWith, logAccess, answer]

theorem physRead_of_silentDevice {s : State} {p : Ppn} (h : isDevicePage p = true) (silent : s.devAnswers = [])
    (o : BitVec 8) (va : BitVec 24) :
    physRead p o va s =
      (Config.deviceValue s.freeCount,
        { s with devLog := .read p o va :: s.devLog, freeCount := s.freeCount + 1 }) := by
  simp [physRead, physReadWith, h, deviceReadWith, logAccess, silent]

theorem physWrite_of_silentDevice {s : State} {p : Ppn} (h : isDevicePage p = true) (silent : s.devAnswers = [])
    (o : BitVec 8) (w : Word) (va : BitVec 24) :
    physWrite p o w va s = { s with devLog := .write p o w va :: s.devLog } := by
  simp [physWrite, physWriteWith, h, deviceWriteWith, logAccess, silent]

/-! ### Started cycles -/

/-- The state at the access of a cycle: the flags are cleared (R82) and the walk may have changed the cache (R69). -/
def cycleBegun (c : Cache) (s : State) : State :=
  { s with accessFault := false, writeFault := false, pageFault := false, cache := c }

theorem noteWalk_clearFaults (va : BitVec 24) (s : State) :
    ∃ c, noteWalk va (clearFaults s) = cycleBegun c s := ⟨_, noteWalk_eq va (clearFaults s)⟩

theorem startRead_of_denied {s : State} (h : (translateVa s (cycleAddress s)).accessOk = false) :
    ∃ c, startRead s = raiseFault .access (translateVa s (cycleAddress s)).ppn (cycleBegun c s) := by
  obtain ⟨c, begun⟩ := noteWalk_clearFaults (cycleAddress s) s
  rcases memRead_cases (cycleAddress s) s with ⟨_, read⟩ | ⟨allowed, _⟩
  · exact ⟨c, by rw [startRead, read, begun]⟩
  · exact absurd allowed (by simp [h])

theorem startRead_of_access {s : State} (h : (translateVa s (cycleAddress s)).accessOk = true) :
    let t := translateVa s (cycleAddress s)
    ∃ c, startRead s =
      { (physRead t.ppn t.off (cycleAddress s) (cycleBegun c s)).2 with
        newMd := (physRead t.ppn t.off (cycleAddress s) (cycleBegun c s)).1, newMdDelay := 2 } := by
  obtain ⟨c, begun⟩ := noteWalk_clearFaults (cycleAddress s) s
  rcases memRead_cases (cycleAddress s) s with ⟨denied, _⟩ | ⟨_, read⟩
  · exact absurd denied (by simp [h])
  · exact ⟨c, by rw [startRead, read, begun]⟩

theorem startWrite_of_denied {s : State} (h : (translateVa s (cycleAddress s)).accessOk = false) :
    ∃ c, startWrite s = raiseFault .access (translateVa s (cycleAddress s)).ppn (cycleBegun c s) := by
  obtain ⟨c, begun⟩ := noteWalk_clearFaults (cycleAddress s) s
  rcases memWrite_cases (cycleAddress s) s.md s with ⟨_, write⟩ | ⟨allowed, _⟩ | ⟨allowed, _⟩
  · exact ⟨c, by rw [startWrite, write, begun]⟩
  all_goals exact absurd allowed (by simp [h])

theorem startWrite_of_readOnly {s : State} (h : (translateVa s (cycleAddress s)).accessOk = true)
    (hw : (translateVa s (cycleAddress s)).writeOk = false) :
    ∃ c, startWrite s = raiseFault .write (translateVa s (cycleAddress s)).ppn (cycleBegun c s) := by
  obtain ⟨c, begun⟩ := noteWalk_clearFaults (cycleAddress s) s
  rcases memWrite_cases (cycleAddress s) s.md s with ⟨denied, _⟩ | ⟨_, _, write⟩ | ⟨_, allowed, _⟩
  · exact absurd denied (by simp [h])
  · exact ⟨c, by rw [startWrite, write, begun]⟩
  · exact absurd allowed (by simp [hw])

theorem startWrite_of_access {s : State} (h : (translateVa s (cycleAddress s)).accessOk = true)
    (hw : (translateVa s (cycleAddress s)).writeOk = true) :
    let t := translateVa s (cycleAddress s)
    ∃ c, startWrite s = physWrite t.ppn t.off s.md (cycleAddress s) (cycleBegun c s) := by
  obtain ⟨c, begun⟩ := noteWalk_clearFaults (cycleAddress s) s
  rcases memWrite_cases (cycleAddress s) s.md s with ⟨denied, _⟩ | ⟨_, denied, _⟩ | ⟨_, _, write⟩
  · exact absurd denied (by simp [h])
  · exact absurd denied (by simp [hw])
  · exact ⟨c, by rw [startWrite, write, begun]⟩

/-- Settles O47: a denied cycle is the raising of its fault. -/
theorem deniedCycles : Obligations.DeniedCycles := by
  refine fun s => ⟨fun denied => ⟨?_, ?_⟩, fun access readOnly => ?_⟩
  · obtain ⟨c, read⟩ := startRead_of_denied denied
    rw [read]; rfl
  · obtain ⟨c, write⟩ := startWrite_of_denied denied
    rw [write]; rfl
  · obtain ⟨c, write⟩ := startWrite_of_readOnly access readOnly
    rw [write]; rfl

/-! ### Pages that hold memory -/

/-- A started write of ordinary memory, its whole effect. -/
theorem startWrite_of_backed {s : State} (access : (translateVa s (cycleAddress s)).accessOk = true)
    (writable : (translateVa s (cycleAddress s)).writeOk = true)
    (backed : backedPage s (translateVa s (cycleAddress s)).ppn = true) :
    let t := translateVa s (cycleAddress s)
    ∃ c, startWrite s =
      { cycleBegun c s with pages := pagesAfter s t.ppn, mem := writeWord s.mem (cellKey t.ppn t.off) s.md } := by
  obtain ⟨c, write⟩ := startWrite_of_access access writable
  exact ⟨c, write.trans (physWrite_of_backed (s := cycleBegun c s) backed _ _ _)⟩

/-- Settles O48, by `physRead_of_backed`. -/
theorem readOfMemory : Obligations.ReadOfMemory := by
  intro s t access backed
  obtain ⟨c, read⟩ := startRead_of_access access
  have word := physRead_of_backed (s := cycleBegun c s) backed t.off (cycleAddress s)
  refine ⟨if pageExists s t.ppn then physWord s t.ppn t.off else 0, ?_, fun present => ?_, fun absent => ?_⟩
  · rw [read, word]; rfl
  · rw [if_pos present, physWord]
  · simp [absent]

/-- Settles O49, by `startWrite_of_backed` and the rules of `writeWord`. -/
theorem writeOfMemory : Obligations.WriteOfMemory := by
  intro s t access writable backed k u
  obtain ⟨c, write⟩ := startWrite_of_backed access writable backed
  have stored : u.mem = writeWord s.mem k s.md := congrArg State.mem write
  refine ⟨?_, ?_, fun x outside => ?_⟩
  · rw [show u = _ from write]; rfl
  · rw [stored, readWord_writeWord]
  · rw [stored, writeWord_byte_outside _ _ _ _ outside]

theorem pageExists_of_pagesAfter {s u : State} {p : Ppn} (h : u.pages = pagesAfter s p) : pageExists u p = true := by
  rw [pageExists, h, pagesAfter]
  split
  · assumption
  · simp [mem_insertPage]

/-- Whoever reads the word where it was stored gets it, and the read changes nothing. -/
theorem physRead_stored {s u : State} {p : Ppn} {o : BitVec 8} {v : Word} (backed : backedPage s p = true)
    (hm : u.mem = writeWord s.mem (cellKey p o) v) (hp : u.pages = pagesAfter s p) (va : BitVec 24) :
    physRead p o va u = (v, u) := by
  have ordinary := ((backedPage_iff s p).mp backed).1
  rw [physRead_of_ordinary ordinary, ramRead, if_pos (pageExists_of_pagesAfter hp), physWord, hm, readWord_writeWord]

theorem startRead_stored {s u : State} {p : Ppn} {o : BitVec 8} {v : Word} (backed : backedPage s p = true)
    (hm : u.mem = writeWord s.mem (cellKey p o) v) (hp : u.pages = pagesAfter s p)
    (access : (translateVa u (cycleAddress u)).accessOk = true) (page : (translateVa u (cycleAddress u)).ppn = p)
    (off : (translateVa u (cycleAddress u)).off = o) :
    (startRead u).newMd = v ∧ (startRead u).newMdDelay = 2 ∧ (startRead u).pageFault = false := by
  obtain ⟨c, read⟩ := startRead_of_access access
  have word := physRead_stored (u := cycleBegun c u) backed hm hp (cycleAddress u)
  rw [read, page, off, word]
  exact ⟨rfl, rfl, rfl⟩

/-- Settles O50: both writers leave what `physRead_stored` and `startRead_stored` ask for. -/
theorem readAfterWrite : Obligations.ReadAfterWrite := by
  refine ⟨?_, ?_⟩
  · intro s u t access writable backed hm hp
    obtain ⟨c, write⟩ := startWrite_of_backed access writable backed
    have mem : u.mem = writeWord s.mem (cellKey t.ppn t.off) s.md := hm.trans (congrArg State.mem write)
    have pages : u.pages = pagesAfter s t.ppn := hp.trans (congrArg State.pages write)
    refine ⟨by rw [physRead_stored backed mem pages], fun hl1 hl2 address => ?_⟩
    have same : translateVa u (cycleAddress u) = t := by rw [address, translateVa_congr hl1 hl2]
    exact startRead_stored backed mem pages (same ▸ access) (by rw [same]) (by rw [same])
  · intro p o v s u backed d
    have call : d = { s with pages := pagesAfter s p, mem := writeWord s.mem (cellKey p o) v } := by
      rw [show d = _ from devCalls_cons _ _ _, devCalls_nil]
      exact physWrite_of_backed backed o v 0
    have stored : d.mem = writeWord s.mem (cellKey p o) v := congrArg State.mem call
    refine ⟨?_, fun x outside => ?_, fun hm hp => ?_⟩
    · rw [call]
    · rw [stored, writeWord_byte_outside _ _ _ _ outside]
    · have mem := hm.trans stored
      have pages := hp.trans (congrArg State.pages call)
      have read := physRead_stored backed mem pages 0
      refine ⟨by rw [read], ?_, fun access page off => (startRead_stored backed mem pages access page off).1⟩
      rw [devCalls_cons, devCalls_nil]
      exact congrArg Prod.snd read

/-! ### Absent pages and devices -/

/-- Settles O51, by the two rules about absent pages. -/
theorem absentPages : Obligations.AbsentPages := by
  intro s t access ordinary absent
  refine ⟨?_, fun writable => ?_⟩
  · obtain ⟨c, read⟩ := startRead_of_access access
    rw [read, physRead_of_absent (s := cycleBegun c s) ordinary absent]; rfl
  · obtain ⟨c, write⟩ := startWrite_of_access access writable
    rw [write, physWrite_of_absent (s := cycleBegun c s) ordinary absent]; rfl

/-- Settles O54: a started cycle and a device's call alike are `physRead` and `physWrite` of the device page. -/
theorem deviceRouting : Obligations.DeviceRouting := by
  intro s v calls rest t begun reads writes
  refine ⟨fun access device answer => ⟨?_, fun writable => ?_⟩,
    fun access device silent => ⟨?_, fun writable => ?_⟩,
    fun p o w cs => ⟨devCalls_cons _ _ _, devCalls_cons _ _ _, devCalls_cons _ _ _, fun device answer =>
      ⟨physRead_of_device device answer o 0, physWrite_of_device device answer o w 0⟩⟩⟩
  · obtain ⟨c, read⟩ := startRead_of_access access
    exact ⟨c, by rw [read, physRead_of_device (s := cycleBegun c s) device answer]; rfl⟩
  · obtain ⟨c, write⟩ := startWrite_of_access access writable
    exact ⟨c, by rw [write, physWrite_of_device (s := cycleBegun c s) device answer]; rfl⟩
  · obtain ⟨c, read⟩ := startRead_of_access access
    exact ⟨c, _, by rw [read, physRead_of_silentDevice (s := cycleBegun c s) device silent]; rfl⟩
  · obtain ⟨c, write⟩ := startWrite_of_access access writable
    exact ⟨c, by rw [write, physWrite_of_silentDevice (s := cycleBegun c s) device silent]; rfl⟩

end Sys2Proof.Machine

/-! SUPPORT. Which words leave memory alone (R62, R300): each part of an instruction that starts no memory cycle keeps
every byte. The dispatch parts are tied to the rules of `Ruled` first, in which `memoryCycle` speaks of them. -/

namespace Sys2Proof.Machine

open Sys2Proof.Ruled

/-! ### The dispatch address and the state a dispatch transfers from -/

theorem positionModify_eq_position (field : BitVec 5) (lc : Word) : positionModify field lc = position field lc := by
  unfold positionModify position lcByteMode
  generalize lc.getLsbD 29 = byteMode, lc.getLsbD 0 = lc0, lc.getLsbD 1 = lc1
  revert field byteMode lc0 lc1
  decide

theorem dispatchPosition_eq (kind : DispKind) (b : DispBits) (s : State) :
    dispatchPosition kind b s = if kind = .posmod then position b.drot s.lc else b.drot := by
  simp [dispatchPosition, positionModify_eq_position]

/-- The length of a dispatch field is at most 7 bits, so its mask is a remainder by a power of two (R273). -/
theorem and_fieldMask_toNat (x : Word) (len : BitVec 3) :
    (x &&& ((1#32 <<< len.toNat) - 1)).toNat = x.toNat % 2 ^ len.toNat := by
  have mask : ((1#32 <<< len.toNat) - 1).toNat = 2 ^ len.toNat - 1 := by
    revert len
    decide
  rw [BitVec.toNat_and, mask, Nat.and_two_pow_sub_one_eq_mod]

theorem mapBit_eq_mapModeBit (dmap : BitVec 2) (l2 : BitVec 24) :
    (dmap != 0 && mapBit dmap l2) = mapModeBit dmap l2 := by
  unfold mapBit mapModeBit
  generalize l2.getLsbD 18 = bit18, l2.getLsbD 19 = bit19
  revert dmap bit18 bit19
  decide

theorem dispatchAddress_eq_dispatchIndex (kind : DispKind) (b : DispBits) (m : Word) (s : State) :
    dispatchAddress kind b m s =
      dispatchIndex b (if kind = .posmod then position b.drot s.lc else b.drot) m s := by
  have field : ∀ x : Word, (x &&& ((1#32 <<< b.dlen.toNat) - 1)).setWidth 11 =
      BitVec.ofNat 11 (x.toNat % 2 ^ b.dlen.toNat) := fun x => by
    apply BitVec.eq_of_toNat_eq
    rw [BitVec.toNat_setWidth, and_fieldMask_toNat, BitVec.toNat_ofNat]
  have bit : ∀ c : Bool, (flagBit c).setWidth 11 = if c then 1#11 else 0#11 := by decide
  simp only [dispatchAddress, dispatchIndex, dispatchPosition_eq, field, mapBit_eq_mapModeBit, bit]

/-- The map mode of a dispatch may walk the maps, which the cache alone shows (R274). -/
theorem dispatchWalk_eq (b : DispBits) (s : State) :
    ∃ c, (if b.dmap = 0 then s else noteWalk (probeAddress s) s) = { s with cache := c } := by
  split
  · exact ⟨s.cache, rfl⟩
  · exact ⟨_, noteWalk_eq _ s⟩

/-- The steps of a dispatch before its transfer are `dispatchReady` (R276 to R278). -/
theorem finishDispatch_eq (popj : Bool) (kind : DispKind) (b : DispBits) (m : Word) (s : State) :
    let e := s.dmem.get (dispatchIndex b (if kind = .posmod then position b.drot s.lc else b.drot) m s).toNat
    let u := dispatchReady b (e.getLsbD 14) s
    finishDispatch popj kind b m s =
      if e.getLsbD 15 && e.getLsbD 16 then popjIf popj { u with noExecNext := e.getLsbD 14 || u.noExecNext }
      else resolveJump (e.extractLsb' 0 14) (e.getLsbD 16) (e.getLsbD 15) (e.getLsbD 14) true none u := by
  have walk : (if b.dmap != 0 then noteWalk (probeAddress s) s else s) =
      if b.dmap = 0 then s else noteWalk (probeAddress s) s := by
    by_cases direct : b.dmap = 0 <;> simp [direct]
  obtain ⟨c, walked⟩ := dispatchWalk_eq b s
  simp only [finishDispatch, dispatchAddress_eq_dispatchIndex, dispatchReady, walk, walked]
  generalize s.dmem.get _ = e
  cases b.nplus1 && e.getLsbD 14 <;> rfl

/-! ### Map writes, advance and return -/

theorem writeMap_mem (s : State) : (writeMap s).mem = s.mem := by rw [writeMap_eq]

theorem advanceLc_mem {s : State} (h : s.lc.getLsbD 31 = false) (v : BitVec 19) :
    (advanceLc v s).2.mem = s.mem := by
  rcases advanceLc_cases v s with ⟨fetches, _⟩ | ⟨_, e⟩
  · exact absurd fetches (by simpa [lcNeedFetch] using h)
  · rw [e]

theorem popReturn_mem {s : State} (h : returnReads s = false) : (popReturn s).2.mem = s.mem := by
  rcases popReturn_cases s with ⟨_, e⟩ | ⟨advances, e⟩
  · rw [e]; rfl
  · have noFetch : s.lc.getLsbD 31 = false := by
      rw [spcTop] at advances
      simpa [returnReads, advances] using h
    rw [e]
    exact advanceLc_mem (s := spcDrop s) noFetch _

theorem popjIf_mem {popj : Bool} {s : State} (h : (popj && returnReads s) = false) : (popjIf popj s).mem = s.mem := by
  cases popj with
  | false => rfl
  | true => exact popReturn_mem h

/-! ### Words that drive the output bus -/

theorem functionalDest_mem {f : FDest} {ma : BitVec 5} (h : startsCycle (.fn f ma) = false) (out : Word) (s : State) :
    (functionalDest f out s).mem = s.mem := by
  cases f
  case vmaStartRead | vmaStartWrite | mdStartRead | mdStartWrite => exact absurd h (by simp [startsCycle])
  case vmaWriteMap => exact writeMap_mem _
  case mdWriteMap => exact writeMap_mem _
  all_goals rfl

theorem writeDest_mem {d : Dest} (h : startsCycle d = false) (out : Word) (s : State) :
    (writeDest d out s).mem = s.mem := by
  cases d with
  | a _ _ => rfl
  | fn f ma => exact functionalDest_mem h out s
  | reserved _ _ => rfl

theorem busWrites_mem {op : BusOp} {d : Dest} {m : Word} {s : State}
    (h : (startsCycle d && (busValue op m s).isSome) = false) : (busWrites op d m s).mem = s.mem := by
  unfold busWrites
  split
  · rfl
  · next out q value =>
    have noCycle : startsCycle d = false := by simpa [value] using h
    exact writeDest_mem noCycle out { s with q := q }

/-! ### Transfers -/

/-- An address just pushed has bit 14 clear: the return through it advances nothing (R141). -/
theorem returnReads_spcPush (a : MicroPc) (s : State) : returnReads (spcPush (a.setWidth 19) s) = false := by
  simp [returnReads]

theorem resolveJump_untaken (target : MicroPc) (r p n : Bool) (s : State) :
    resolveJump target r p n false none s = s := by simp [resolveJump]

theorem resolveJump_taken_mem {r p : Bool} {s : State} (h : ((r && !p) && returnReads s) = false)
    (target : MicroPc) (n : Bool) : (resolveJump target r p n true none s).mem = s.mem := by
  cases r with
  | false => cases p <;> rfl
  | true =>
    cases p with
    | false => exact popReturn_mem h
    | true => exact popReturn_mem (returnReads_spcPush (returnAddress n s) s)

theorem finishJump_mem {popj : Bool} {op : JumpOp} {m : Word} {s : State}
    (h : memoryCycle popj (.jump op) m s = false) : (finishJump popj op m s).mem = s.mem := by
  have halted : ∀ (c : Bool) (u : State), (if c then { u with run := false } else u).mem = u.mem := fun c _ => by
    cases c <;> rfl
  simp only [memoryCycle] at h
  simp only [finishJump, halted, resolveJump_selfWrite, readA]
  generalize testCondition op.test m (readAMem s op.bits.asrc) s = cond at h ⊢
  generalize (if op.p && op.r then _ else s.ucode) = ucode
  cases taken : cond ^^ op.bits.inv with
  | true =>
    have noPop : ((op.r && !op.p) && returnReads s) = false := by simpa [taken] using h
    rw [Bool.not_true, Bool.and_false]
    exact resolveJump_taken_mem (s := { s with ucode := ucode }) noPop op.bits.jaddr op.bits.n
  | false =>
    have noPop : (popj && returnReads s) = false := by simpa [taken] using h
    rw [Bool.not_false, Bool.and_true, resolveJump_untaken]
    exact popjIf_mem (s := { s with ucode := ucode }) noPop

theorem dispatchReady_mem {b : DispBits} {s : State} (h : (b.ish && s.lc.getLsbD 31) = false) (n : Bool) :
    (dispatchReady b n s).mem = s.mem := by
  obtain ⟨c, walked⟩ := dispatchWalk_eq b s
  simp only [dispatchReady, walked]
  cases ish : b.ish with
  | false => rfl
  | true =>
    have noFetch : s.lc.getLsbD 31 = false := by simpa [ish] using h
    refine advanceLc_mem ?_ 0
    exact noFetch

theorem finishDispatch_mem {popj : Bool} {kind : DispKind} {b : DispBits} {m : Word} {s : State}
    (notWrite : kind ≠ .write) (h : memoryCycle popj (.disp ⟨kind, b⟩) m s = false) :
    (finishDispatch popj kind b m s).mem = s.mem := by
  rw [finishDispatch_eq]
  simp only [memoryCycle, if_neg notWrite, Bool.or_eq_false_iff] at h
  obtain ⟨noFetch, noPop⟩ := h
  generalize s.dmem.get _ = e at noPop ⊢
  refine Eq.trans ?_ (dispatchReady_mem noFetch (e.getLsbD 14))
  generalize dispatchReady b (e.getLsbD 14) s = u at noPop ⊢
  cases both : e.getLsbD 15 && e.getLsbD 16 with
  | true =>
    rw [both, if_pos rfl] at noPop
    exact popjIf_mem (s := { u with noExecNext := e.getLsbD 14 || u.noExecNext }) noPop
  | false =>
    rw [both, if_neg Bool.false_ne_true] at noPop
    exact resolveJump_taken_mem (by rw [Bool.and_right_comm, noPop, Bool.false_and]) _ _

/-! ### Any instruction -/

theorem afterRead_mem {popj : Bool} {body : Body} {m : Word} {s : State} (h : memoryCycle popj body m s = false) :
    (afterRead popj body m s).mem = s.mem := by
  cases body with
  | bus op d =>
    obtain ⟨noStart, noPop⟩ := Bool.or_eq_false_iff.mp h
    exact (popjIf_mem noPop).trans (busWrites_mem noStart)
  | jump op => exact finishJump_mem h
  | disp op =>
    obtain ⟨kind, b⟩ := op
    cases kind with
    | write => exact popjIf_mem h
    | normal | misc1 | posmod => exact finishDispatch_mem nofun h

/-- A word is its M-source read and the rest; a dispatch-memory write ignores the operand (R281). -/
theorem runMicro_eq_withSource (w : Micro) (s : State) :
    runMicro w s = withSource w.head.popj w.body (readM w.head.src s).1 (readM w.head.src s).2 s := by
  rw [runMicro_eq_afterRead, withSource]
  obtain ⟨h, body⟩ := w
  cases body with
  | bus op d => rfl
  | jump op => rfl
  | disp op =>
    obtain ⟨kind, b⟩ := op
    cases kind <;> rfl

theorem readM_mem (src : MSrc) (s : State) : (readM src s).2.mem = s.mem := by rw [readM_frame src s]

/-- Every instruction answers a next state: the same one, or what the fields of its word make. -/
theorem exec_eq_next (i : Instr) (s : State) : ∃ u, exec i s = .next u ∧ (u = s ∨ u = runMicro i.micro s) := by
  by_cases isNop : ∃ b b', i = .nop b b'
  · obtain ⟨b, b', rfl⟩ := isNop
    exact ⟨s, exec_nop b b' s, .inl rfl⟩
  · exact ⟨_, exec_eq_runMicro i s fun b b' e => isNop ⟨b, b', e⟩, .inr rfl⟩

/-- Settles O53: the M-source read leaves memory, and so does the rest of the word by `afterRead_mem`. -/
theorem nonStoringFormsKeepMemory : Obligations.NonStoringFormsKeepMemory := by
  intro i s m t noCycle
  have base : t.mem = s.mem := by
    simp only [t]
    split
    · rfl
    · exact readM_mem _ s
  obtain ⟨u, runs, rfl | rfl⟩ := exec_eq_next i s
  · exact ⟨_, runs, fun _ => rfl⟩
  · refine ⟨_, runs, fun x => ?_⟩
    rw [runMicro_eq_withSource, withSource, afterRead_mem noCycle, base]

end Sys2Proof.Machine

/-! SUPPORT. Packing and parsing the fields of a word are inverse to each other, part by part (R101 to R107). A field
of an append is a field of the part it lies in, and adjacent fields append to one. -/

namespace Sys2Proof

theorem getLsbD_bit1 (b : Bool) : (bit1 b).getLsbD 0 = b := by cases b <;> rfl

theorem bit1_getLsbD {n : Nat} (x : BitVec n) (i : Nat) : bit1 (x.getLsbD i) = x.extractLsb' i 1 := by
  refine BitVec.eq_of_getLsbD_eq fun j hj => ?_
  obtain rfl : j = 0 := by omega
  rw [getLsbD_bit1, BitVec.getLsbD_extractLsb']
  simp

theorem getLsbD_of_extractLsb' {n : Nat} {x : BitVec n} {i : Nat} {b : Bool} (h : x.extractLsb' i 1 = bit1 b) :
    x.getLsbD i = b := by
  rw [← getLsbD_bit1 (x.getLsbD i), bit1_getLsbD, h, getLsbD_bit1]

theorem getLsbD_append_left {n m i : Nat} (x : BitVec n) (y : BitVec m) (h : m ≤ i) :
    (x ++ y).getLsbD i = x.getLsbD (i - m) := by
  rw [BitVec.getLsbD_append, if_neg (by omega)]

theorem getLsbD_append_right {n m i : Nat} (x : BitVec n) (y : BitVec m) (h : i < m) :
    (x ++ y).getLsbD i = y.getLsbD i := by
  rw [BitVec.getLsbD_append, if_pos h]

/-! ### The fields of a packed word -/

theorem MSrc.parse_pack (src : MSrc) : MSrc.parse src.pack = src := by
  cases src <;>
    simp (disch := omega) only [MSrc.parse, MSrc.pack, getLsbD_append_left, Nat.reduceSub,
      BitVec.extractLsb'_append_eq_of_add_le, BitVec.extractLsb'_eq_self, FSrc.ofCode_code] <;>
    rfl

theorem JTest.parse_pack (t : JTest) : JTest.parse t.pack = t := by
  cases t <;>
    simp (disch := omega) only [JTest.parse, JTest.pack, getLsbD_append_left, Nat.reduceSub,
      BitVec.extractLsb'_append_eq_of_le, BitVec.extractLsb'_append_eq_of_add_le, BitVec.extractLsb'_eq_self,
      JCond.ofCode_code] <;>
    rfl

theorem Dest.parse_pack (d : Dest) : Dest.parse d.pack = d := by
  cases d <;>
    simp (disch := omega) only [Dest.parse, Dest.pack, getLsbD_append_left, getLsbD_append_right, Nat.reduceSub,
      getLsbD_bit1, BitVec.extractLsb'_append_eq_of_le, BitVec.extractLsb'_append_eq_of_add_le,
      BitVec.extractLsb'_eq_self, FDest.ofCode_code] <;>
    rfl

theorem Body.parse_pack (b : Body) : Body.parse b.cls b.high b.low = b := by
  rcases b with ⟨op | op, d⟩ | op | op
  all_goals
    simp (disch := omega) only [Body.parse, Body.cls, Body.high, Body.low, BitVec.reduceToNat, Dest.parse_pack,
      JTest.parse_pack, getLsbD_bit1, getLsbD_append_left, getLsbD_append_right, Nat.reduceSub,
      BitVec.extractLsb'_append_eq_of_le, BitVec.extractLsb'_append_eq_of_add_le, BitVec.extractLsb'_eq_self,
      AluFn.ofCode_code, OutSel.ofCode_code, QCtl.ofCode_code, JMisc.ofCode_code, DispKind.ofCode_code,
      ByteFn.ofCode_code]

theorem Micro.parse_pack (m : Micro) : Micro.parse m.pack = m := by
  simp only [Micro.parse, bitAt, getLsbD_of_extractLsb' m.pack_b47, getLsbD_of_extractLsb' m.pack_stat,
    getLsbD_of_extractLsb' m.pack_ilong, getLsbD_of_extractLsb' m.pack_popj, m.pack_cls, m.pack_high,
    m.pack_low 0 26 (by omega), m.pack_src 0 6 (by omega), BitVec.extractLsb'_eq_self, MSrc.parse_pack,
    Body.parse_pack]

theorem Micro.pack_injective {m n : Micro} (h : m.pack = n.pack) : m = n := by
  rw [← m.parse_pack, h, n.parse_pack]

/-! ### The bits of parsed fields -/

theorem MSrc.pack_parse : ∀ v : BitVec 6, (MSrc.parse v).pack = v := by decide

theorem JTest.pack_parse : ∀ v : BitVec 6, (JTest.parse v).pack = v := by decide

theorem Dest.pack_parse (v : BitVec 12) : (Dest.parse v).pack = v := by
  unfold Dest.parse
  split
  case isTrue direct =>
    rw [Dest.pack, show 1#1 = bit1 (v.getLsbD 11) by rw [direct]; rfl]
    simp only [bit1_getLsbD, BitVec.extractLsb'_append_extractLsb'_eq_extractLsb', BitVec.extractLsb'_eq_self]
  case isFalse indirect =>
    split
    case isTrue marked =>
      rw [Dest.pack, show 1#2 = bit1 (v.getLsbD 11) ++ bit1 (v.getLsbD 10) by simp only [indirect, marked]; rfl]
      simp only [bit1_getLsbD, BitVec.extractLsb'_append_extractLsb'_eq_extractLsb', BitVec.extractLsb'_eq_self]
    case isFalse unmarked =>
      rw [Dest.pack, show 0#2 = bit1 (v.getLsbD 11) ++ bit1 (v.getLsbD 10) by simp only [indirect, unmarked]; rfl]
      simp only [bit1_getLsbD, FDest.code_ofCode, BitVec.extractLsb'_append_extractLsb'_eq_extractLsb',
        BitVec.extractLsb'_eq_self]

theorem Body.pack_parse (c : BitVec 2) (high : BitVec 10) (low : BitVec 26) :
    (Body.parse c high low).cls = c ∧ (Body.parse c high low).high = high ∧ (Body.parse c high low).low = low := by
  have classes : c = 0 ∨ c = 1 ∨ c = 2 ∨ c = 3 := by revert c; decide
  rcases classes with rfl | rfl | rfl | rfl
  all_goals
    refine ⟨rfl, rfl, ?_⟩
    simp only [Body.parse, BitVec.reduceToNat, Body.low, Dest.pack_parse, JTest.pack_parse, bit1_getLsbD,
      AluFn.code_ofCode, OutSel.code_ofCode, QCtl.code_ofCode, JMisc.code_ofCode, DispKind.code_ofCode,
      ByteFn.code_ofCode, BitVec.extractLsb'_append_extractLsb'_eq_extractLsb', BitVec.extractLsb'_eq_self]

theorem Micro.pack_parse (w : Microword) : (Micro.parse w).pack = w := by
  obtain ⟨cls, high, low⟩ := Body.pack_parse (w.extractLsb' 43 2) (w.extractLsb' 32 10) (w.extractLsb' 0 26)
  simp only [Micro.parse, Micro.pack, bitAt, bit1_getLsbD, MSrc.pack_parse, cls, high, low,
    BitVec.extractLsb'_append_extractLsb'_eq_extractLsb', BitVec.extractLsb'_eq_self]

end Sys2Proof

/-! SUPPORT. The row a word is named by (log 1): naming keeps the fields and gives a well-formed instruction, and a
well-formed instruction is the name of its own fields; in both the NOP's words are apart. -/

namespace Sys2Proof

/-! ### What the tests of `Instr.wf` say -/

theorem BusOp.isSetz_iff {op : BusOp} : op.isSetz = true ↔ ∃ ob qc b, op = .alu ⟨.setz, ob, qc, b⟩ := by
  constructor
  · intro h
    rcases op with ⟨fn, ob, qc, b⟩ | op
    · obtain rfl : fn = .setz := beq_iff_eq.mp h
      exact ⟨ob, qc, b, rfl⟩
    · cases h
  · rintro ⟨ob, qc, b, rfl⟩
    rfl

theorem BusOp.isPlainSetz_iff {op : BusOp} :
    op.isPlainSetz = true ↔ ∃ ob b, ob.isPlain = true ∧ op = .alu ⟨.setz, ob, .none, b⟩ := by
  constructor
  · intro h
    rcases op with ⟨fn, ob, qc, b⟩ | op
    · simp only [BusOp.isPlainSetz, Bool.and_eq_true, beq_iff_eq] at h
      obtain ⟨⟨rfl, rfl⟩, plain⟩ := h
      exact ⟨ob, b, plain, rfl⟩
    · cases h
  · rintro ⟨ob, b, plain, rfl⟩
    exact plain

theorem Dest.isNone_iff {d : Dest} : d.isNone = true ↔ ∃ ma, d = .fn .none ma := by
  unfold Dest.isNone
  split
  · simp
  case h_2 other => simpa using other

theorem fieldsPlain_iff {h : Head} {d : Dest} :
    fieldsPlain h d = true ↔ ∃ g a ma, h = ⟨g, false, .m a⟩ ∧ d = .fn .none ma := by
  constructor
  · intro plain
    obtain ⟨g, popj, src⟩ := h
    simp only [fieldsPlain, Bool.and_eq_true, Bool.not_eq_true', Dest.isNone_iff] at plain
    obtain ⟨⟨rfl, ma, rfl⟩, srcPlain⟩ := plain
    cases src with
    | m a => exact ⟨g, a, ma, rfl, rfl⟩
    | fs f => cases srcPlain
  · rintro ⟨g, a, ma, rfl, rfl⟩
    rfl

theorem fieldsZero_iff {h : Head} {d : Dest} :
    fieldsZero h d = true ↔ ∃ g, h = ⟨g, false, .m 0⟩ ∧ d = .fn .none 0 := by
  constructor
  · intro zero
    obtain ⟨g, popj, src⟩ := h
    simp only [fieldsZero, Dest.isZero, Bool.and_eq_true, Bool.not_eq_true', beq_iff_eq] at zero
    obtain ⟨⟨rfl, rfl⟩, rfl⟩ := zero
    exact ⟨g, rfl, rfl⟩
  · rintro ⟨g, rfl, rfl⟩
    rfl

/-! ### Which row each word is named by -/

theorem nameSetzPlain_of_source {ob : OutSel} (plain : ob.isPlain = true) {a : BitVec 5} (source : a ≠ 0) (h : Head)
    (ma : BitVec 5) (fn : AluFn) (b : AluBits) :
    nameSetzPlain h a ma ⟨fn, ob, .none, b⟩ =
      .msrcM a h.ign h.popj (.bus (.alu ⟨fn, ob, .none, b⟩) (.fn .none ma)) := by
  cases ob with
  | undef | alu => exact if_pos (bne_iff_ne.mpr source)
  | r1 | l1 => cases plain

theorem nameSetzPlain_of_dest {ob : OutSel} (plain : ob.isPlain = true) {ma : BitVec 5} (dest : ma ≠ 0) (h : Head)
    (fn : AluFn) (b : AluBits) :
    nameSetzPlain h 0 ma ⟨fn, ob, .none, b⟩ = .destNone ma h (.alu ⟨fn, ob, .none, b⟩) := by
  cases ob with
  | undef | alu => exact if_pos (bne_iff_ne.mpr dest)
  | r1 | l1 => cases plain

theorem nameSetzPlain_alu (h : Head) (fn : AluFn) (b : AluBits) :
    nameSetzPlain h 0 0 ⟨fn, .alu, .none, b⟩ =
      if b.cin then .qcNone h (.fn .none 0) b fn .alu
      else if b.asrc != 0 || b.misc != 0 then .obAlu h (.fn .none 0) b fn .none
      else .aluSetz h (.fn .none 0) b .alu .none := rfl

theorem nameSetz_of_dest {h : Head} {d : Dest} (noPopj : h.popj = false) (other : d.isNone = false) (op : AluOp) :
    nameSetz h d op = nameDest d h (.alu op) := by
  simp only [nameSetz, noPopj, Bool.false_eq_true, if_false]
  split
  · cases other
  · rfl

theorem name_of_not_setz {op : AluOp} (other : op.fn ≠ .setz) (h : Head) (d : Dest) :
    Micro.name ⟨h, .bus (.alu op) d⟩ = nameAlu h d op :=
  if_neg (by simpa using other)

theorem name_of_plain (g : Ignored) (a ma : BitVec 5) (ob : OutSel) (qc : QCtl) (b : AluBits) :
    Micro.name ⟨⟨g, false, .m a⟩, .bus (.alu ⟨.setz, ob, qc, b⟩) (.fn .none ma)⟩ =
      nameSetzPlain ⟨g, false, .m a⟩ a ma ⟨.setz, ob, qc, b⟩ := rfl

theorem name_of_dest {h : Head} {d : Dest} {op : BusOp} (wf : (op.isSetz && !h.popj) = true)
    (other : d.isNone = false) : Micro.name ⟨h, .bus op d⟩ = nameDest d h op := by
  obtain ⟨setz, noPopj⟩ := Bool.and_eq_true_iff.mp wf
  obtain ⟨ob, qc, b, rfl⟩ := BusOp.isSetz_iff.mp setz
  exact nameSetz_of_dest (by simpa using noPopj) other _

theorem name_of_source {g : Ignored} {pj : Bool} {body : Body} (wf : fsrcRowWf pj body = true) (f : FSrc) :
    Micro.name ⟨⟨g, pj, .fs f⟩, body⟩ = nameSource f g pj body := by
  obtain ⟨noPopj, bodyWf⟩ := Bool.and_eq_true_iff.mp wf
  obtain rfl : pj = false := by simpa using noPopj
  rcases body with ⟨op, d⟩ | _ | _
  · obtain ⟨setz, noDest⟩ := Bool.and_eq_true_iff.mp bodyWf
    obtain ⟨ob, qc, b, rfl⟩ := BusOp.isSetz_iff.mp setz
    obtain ⟨ma, rfl⟩ := Dest.isNone_iff.mp noDest
    rfl
  · cases bodyWf
  · cases bodyWf

/-! ### The name of a word's fields -/

/-- `i` has the fields `m`, and it is written with its own row unless `m` is a NOP's. -/
structure Instr.Names (i : Instr) (m : Micro) : Prop where
  micro : i.micro = m
  wf : (∀ b47 b12, m ≠ (Instr.nop b47 b12).micro) → i.wf = true

theorem Instr.Names.of_wf {i : Instr} {m : Micro} (micro : i.micro = m) (wf : i.wf = true) : i.Names m :=
  ⟨micro, fun _ => wf⟩

theorem nameAlu_names (h : Head) (d : Dest) {op : AluOp} (other : op.fn ≠ .setz) :
    (nameAlu h d op).Names ⟨h, .bus (.alu op) d⟩ := by
  obtain ⟨fn, ob, qc, b⟩ := op
  cases fn with
  | setz => exact absurd rfl other
  | _ => exact .of_wf rfl rfl

theorem nameSource_names (f : FSrc) (g : Ignored) {body : Body} (wf : fsrcRowWf false body = true) :
    (nameSource f g false body).Names ⟨⟨g, false, .fs f⟩, body⟩ := by
  cases f <;> exact .of_wf rfl wf

theorem nameDest_names {d : Dest} (other : d.isNone = false) {h : Head} {op : BusOp}
    (wf : (op.isSetz && !h.popj) = true) : (nameDest d h op).Names ⟨h, .bus op d⟩ := by
  rcases d with _ | ⟨f, ma⟩ | _
  · exact .of_wf rfl wf
  · cases f with
    | none => cases other
    | _ => exact .of_wf rfl wf
  · exact .of_wf rfl wf

/-- A SETZ word whose fields with a row are all neutral has another bit set, or it is a NOP's (R118). -/
theorem marked_of_ne_nop {g : Ignored} {ob : OutSel} {b : AluBits} (plain : ob.isPlain = true)
    (notNop : ∀ b47 b12, (⟨⟨g, false, .m 0⟩, .bus (.alu ⟨.setz, ob, .none, b⟩) (.fn .none 0)⟩ : Micro) ≠
      (Instr.nop b47 b12).micro) :
    (b.cin || b.asrc != 0 || b.misc != 0 || b.b9 || g.marks) = true := by
  by_contra unmarked
  obtain ⟨asrc, misc, b9, cin⟩ := b
  obtain ⟨b47, stat, ilong⟩ := g
  refine notNop b47 (ob == .alu) ?_
  cases ob <;> simp_all [OutSel.isPlain, Ignored.marks, Instr.micro]

/-- A SETZ word without Q control and with a plain output selector: its M-source, its destination address, or what
is left names it. -/
theorem nameSetzPlain_names_of_plain (g : Ignored) (a ma : BitVec 5) {ob : OutSel} (plain : ob.isPlain = true)
    (b : AluBits) :
    (nameSetzPlain ⟨g, false, .m a⟩ a ma ⟨.setz, ob, .none, b⟩).Names
      ⟨⟨g, false, .m a⟩, .bus (.alu ⟨.setz, ob, .none, b⟩) (.fn .none ma)⟩ := by
  obtain source | rfl := ne_or_eq a 0
  · rw [nameSetzPlain_of_source plain source]
    exact .of_wf rfl (by simpa [Instr.wf, BusOp.isPlainSetz, Dest.isNone, plain] using source)
  obtain dest | rfl := ne_or_eq ma 0
  · rw [nameSetzPlain_of_dest plain dest]
    exact .of_wf rfl (by simpa [Instr.wf, BusOp.isPlainSetz, plain] using dest)
  cases ob with
  | undef => exact ⟨rfl, marked_of_ne_nop plain⟩
  | alu =>
    rw [nameSetzPlain_alu]
    split_ifs with cin operands
    · exact .of_wf rfl cin
    · exact .of_wf rfl (by simp_all [Instr.wf, fieldsZero, Dest.isZero])
    · refine ⟨rfl, fun notNop => ?_⟩
      have marked := marked_of_ne_nop plain notNop
      simp_all [Instr.wf, fieldsZero, Dest.isZero]
  | r1 | l1 => cases plain

theorem nameSetzPlain_names (g : Ignored) (a ma : BitVec 5) (ob : OutSel) (qc : QCtl) (b : AluBits) :
    (nameSetzPlain ⟨g, false, .m a⟩ a ma ⟨.setz, ob, qc, b⟩).Names
      ⟨⟨g, false, .m a⟩, .bus (.alu ⟨.setz, ob, qc, b⟩) (.fn .none ma)⟩ := by
  cases qc with
  | ql | qr | qload => exact .of_wf rfl rfl
  | none =>
    cases ob with
    | r1 | l1 => exact .of_wf rfl rfl
    | undef | alu => exact nameSetzPlain_names_of_plain g a ma rfl b

theorem nameSetz_names (h : Head) (d : Dest) (ob : OutSel) (qc : QCtl) (b : AluBits) :
    (nameSetz h d ⟨.setz, ob, qc, b⟩).Names ⟨h, .bus (.alu ⟨.setz, ob, qc, b⟩) d⟩ := by
  obtain ⟨g, popj, src⟩ := h
  cases popj with
  | true => exact .of_wf rfl rfl
  | false =>
    cases noDest : d.isNone with
    | false =>
      rw [nameSetz_of_dest rfl noDest]
      exact nameDest_names noDest rfl
    | true =>
      obtain ⟨ma, rfl⟩ := Dest.isNone_iff.mp noDest
      cases src with
      | fs f => exact nameSource_names f g rfl
      | m a => exact nameSetzPlain_names g a ma ob qc b

theorem nameJump_names (h : Head) (op : JumpOp) : (nameJump h op).Names ⟨h, .jump op⟩ := by
  obtain ⟨misc, r, p, test, j⟩ := op
  cases misc with
  | halt | misc2 | misc3 => exact .of_wf rfl rfl
  | none =>
    cases selfWrite : r && p with
    | true =>
      obtain ⟨rfl, rfl⟩ := Bool.and_eq_true_iff.mp selfWrite
      exact .of_wf rfl rfl
    | false =>
      have row : jumpRowWf .none r p = true := by rw [jumpRowWf, selfWrite]; rfl
      simp only [nameJump, selfWrite]
      cases test with
      | bit rot => exact .of_wf rfl row
      | table c b43 => cases c <;> exact .of_wf rfl row

theorem Micro.name_names (m : Micro) : m.name.Names m := by
  obtain ⟨h, ⟨⟨fn, ob, qc, b⟩ | ⟨fn, b⟩, d⟩ | op | ⟨kind, b⟩⟩ := m
  case bus.alu =>
    by_cases setz : fn = .setz
    · subst setz
      exact nameSetz_names h d ob qc b
    · rw [name_of_not_setz (op := ⟨fn, ob, qc, b⟩) setz]
      exact nameAlu_names h d setz
  case bus.byte => cases fn <;> exact .of_wf rfl rfl
  case jump => exact nameJump_names h op
  case disp => cases kind <;> exact .of_wf rfl rfl

/-! ### The fields of a well-formed instruction -/

/-- The decoder names the fields of a well-formed instruction by the row it is written with. -/
theorem Instr.name_micro {i : Instr} (wf : i.wf = true) (notNop : ∀ b b', i ≠ .nop b b') : i.micro.name = i := by
  cases i with
  | nop b b' => exact absurd rfl (notNop b b')
  | aluSetz h d b ob qc =>
    simp only [Instr.wf, Bool.and_eq_true, beq_iff_eq, Bool.not_eq_true', fieldsZero_iff] at wf
    obtain ⟨⟨⟨⟨⟨⟨⟨g, rfl, rfl⟩, rfl⟩, rfl⟩, cin⟩, asrc⟩, misc⟩, -⟩ := wf
    rw [Instr.micro, name_of_plain, nameSetzPlain_alu, cin, asrc, misc]
    rfl
  | obUndef h d b fn qc =>
    simp only [Instr.wf, Bool.and_eq_true, beq_iff_eq, fieldsZero_iff] at wf
    obtain ⟨⟨⟨rfl, g, rfl, rfl⟩, rfl⟩, -⟩ := wf
    rfl
  | obAlu h d b fn qc =>
    simp only [Instr.wf, Bool.and_eq_true, beq_iff_eq, Bool.not_eq_true', fieldsZero_iff] at wf
    obtain ⟨⟨⟨⟨rfl, g, rfl, rfl⟩, rfl⟩, cin⟩, operands⟩ := wf
    rw [Instr.micro, name_of_plain, nameSetzPlain_alu, cin, if_neg Bool.false_ne_true, if_pos operands]
  | qcNone h d b fn ob =>
    simp only [Instr.wf, Bool.and_eq_true, beq_iff_eq, fieldsZero_iff] at wf
    obtain ⟨⟨⟨rfl, g, rfl, rfl⟩, rfl⟩, cin⟩ := wf
    rw [Instr.micro, name_of_plain, nameSetzPlain_alu, if_pos cin]
  | obR1 h d b fn qc | obL1 h d b fn qc =>
    simp only [Instr.wf, Bool.and_eq_true, beq_iff_eq, fieldsPlain_iff] at wf
    obtain ⟨⟨rfl, g, a, ma, rfl, rfl⟩, rfl⟩ := wf
    rfl
  | qcQl h d b fn ob | qcQr h d b fn ob | qcQload h d b fn ob =>
    simp only [Instr.wf, Bool.and_eq_true, beq_iff_eq, fieldsPlain_iff] at wf
    obtain ⟨rfl, g, a, ma, rfl, rfl⟩ := wf
    rfl
  | popj g src body =>
    rcases body with ⟨op, d⟩ | _ | _
    · obtain ⟨ob, qc, b, rfl⟩ := BusOp.isSetz_iff.mp wf
      rfl
    · cases wf
    · cases wf
  | msrcM a g pj body =>
    simp only [Instr.wf, Bool.and_eq_true, bne_iff_ne, Bool.not_eq_true'] at wf
    obtain ⟨⟨rfl, source⟩, bodyWf⟩ := wf
    rcases body with ⟨op, d⟩ | _ | _
    · simp only [Bool.and_eq_true, BusOp.isPlainSetz_iff, Dest.isNone_iff] at bodyWf
      obtain ⟨⟨ob, b, plain, rfl⟩, ma, rfl⟩ := bodyWf
      exact nameSetzPlain_of_source plain source _ ma _ b
    · cases bodyWf
    · cases bodyWf
  | destNone ma h op =>
    obtain ⟨g, popj, src⟩ := h
    simp only [Instr.wf, Bool.and_eq_true, bne_iff_ne, beq_iff_eq, Bool.not_eq_true', BusOp.isPlainSetz_iff] at wf
    obtain ⟨⟨⟨⟨ob, b, plain, rfl⟩, rfl⟩, rfl⟩, dest⟩ := wf
    exact nameSetzPlain_of_dest plain dest _ _ b
  | jumpNever | jumpLt | jumpLe | jumpEq | jumpPf | jumpPfi | jumpPfis | jumpAlways | jumpBit =>
    simp only [Instr.wf, jumpRowWf, Bool.and_eq_true, beq_iff_eq, Bool.not_eq_true'] at wf
    obtain ⟨rfl, transfer⟩ := wf
    simp only [Instr.micro, Micro.name, nameJump, transfer, Bool.false_eq_true, if_false]
  | jumpWriteUcode h j misc t =>
    obtain rfl : misc = .none := beq_iff_eq.mp wf
    rfl
  | msrcDispatchConstant | msrcSpcPtrAndData | msrcPdlPointer | msrcPdlIndex | msrcUndef04 | msrcPdlBufferIndex
  | msrcOpc | msrcQ | msrcVma | msrcMapMd | msrcMd | msrcLc | msrcSpcPtrAndDataPop | msrcUndef15 | msrcUndef16
  | msrcUndef17 | msrcUndef20 | msrcUndef21 | msrcUndef22 | msrcUndef23 | msrcPdlBufferPointerPop
  | msrcPdlBufferPointer | msrcUndef26 | msrcUndef27 | msrcUndef30 | msrcUndef31 | msrcUndef32 | msrcUndef33
  | msrcUndef34 | msrcUndef35 | msrcUndef36 | msrcUndef37 => exact name_of_source wf _
  | destA | destLc | destInterruptControl | destUndef03 | destUndef04 | destUndef05 | destUndef06 | destUndef07
  | destPdlByPointer | destPdlByPointerPush | destPdlByIndex | destPdlIndex | destPdlPointer | destSpcPush
  | destOaLo | destOaHi | destVma | destVmaStartRead | destVmaStartWrite | destVmaWriteMap | destUndef24
  | destUndef25 | destUndef26 | destUndef27 | destMd | destMdStartRead | destMdStartWrite | destMdWriteMap
  | destUndef34 | destUndef35 | destUndef36 | destUndef37 | destReserved => exact name_of_dest wf rfl
  | _ => rfl

end Sys2Proof

/-! SUPPORT. The decoder and the encoder: the NOP words (R118), and the two ways round. -/

namespace Sys2Proof

/-! ### The NOP words -/

theorem getLsbD_of_isNop {w : Microword} (nop : isNop w = true) {i : Nat} (hi : i < 48) (h12 : i ≠ 12) (h47 : i ≠ 47) :
    w.getLsbD i = false := by
  have masked : ∀ i < 48, i ≠ 12 → i ≠ 47 → nopMask.getLsbD i = true := by decide
  have zero : (w &&& nopMask).getLsbD i = false := by
    rw [beq_iff_eq.mp nop]
    exact BitVec.getLsbD_zero
  rwa [BitVec.getLsbD_and, masked i hi h12 h47, Bool.and_true] at zero

theorem getLsbD_encode_nop (b47 b12 : Bool) :
    ∀ i < 48, (encode (.nop b47 b12)).getLsbD i = if i = 12 then b12 else if i = 47 then b47 else false := by
  cases b47 <;> cases b12 <;> decide

theorem isNop_encode_nop (b47 b12 : Bool) : isNop (encode (.nop b47 b12)) = true := by
  cases b47 <;> cases b12 <;> rfl

theorem encode_nop_of_isNop {w : Microword} (nop : isNop w = true) : encode (.nop (bitAt w 47) (bitAt w 12)) = w := by
  refine BitVec.eq_of_getLsbD_eq fun i hi => ?_
  rw [getLsbD_encode_nop _ _ i hi]
  split_ifs with h12 h47
  · rw [h12, bitAt]
  · rw [h47, bitAt]
  · exact (getLsbD_of_isNop nop hi h12 h47).symm

theorem isNop_iff {w : Microword} : isNop w = true ↔ ∃ b47 b12, w = encode (.nop b47 b12) := by
  constructor
  · intro nop
    exact ⟨_, _, (encode_nop_of_isNop nop).symm⟩
  · rintro ⟨b47, b12, rfl⟩
    exact isNop_encode_nop b47 b12

/-! ### Decoding and encoding -/

theorem decode_of_nop {w : Microword} (nop : isNop w = true) : decode w = .nop (bitAt w 47) (bitAt w 12) := if_pos nop

theorem decode_of_not_nop {w : Microword} (notNop : isNop w = false) : decode w = (Micro.parse w).name := by
  rw [decode, notNop, if_neg Bool.false_ne_true]

theorem encode_decode (w : Microword) : encode (decode w) = w := by
  cases nop : isNop w with
  | true => rw [decode_of_nop nop, encode_nop_of_isNop nop]
  | false => rw [decode_of_not_nop nop, encode, (Micro.name_names _).micro, Micro.pack_parse]

theorem decode_wf (w : Microword) : (decode w).wf = true := by
  cases nop : isNop w with
  | true => rw [decode_of_nop nop]; rfl
  | false =>
    rw [decode_of_not_nop nop]
    refine (Micro.name_names _).wf fun b47 b12 fields => ?_
    have word : w = encode (.nop b47 b12) := by rw [encode, ← fields, Micro.pack_parse]
    rw [word, isNop_encode_nop] at nop
    exact Bool.false_ne_true nop.symm

/-- The row a NOP's fields would be named by is not well-formed: its words are tested before (R118, R139). -/
theorem name_nop_not_wf (b47 b12 : Bool) : (Instr.nop b47 b12).micro.name.wf = false := by
  cases b47 <;> cases b12 <;> rfl

theorem isNop_encode_of_wf {i : Instr} (wf : i.wf = true) (notNop : ∀ b b', i ≠ .nop b b') :
    isNop (encode i) = false := by
  by_contra nop
  obtain ⟨b47, b12, sameWord⟩ := isNop_iff.mp ((Bool.not_eq_false _).mp nop)
  have fields : i.micro = (Instr.nop b47 b12).micro := Micro.pack_injective sameWord
  rw [← Instr.name_micro wf notNop, fields, name_nop_not_wf] at wf
  exact Bool.false_ne_true wf

theorem decode_encode_nop (b47 b12 : Bool) : decode (encode (.nop b47 b12)) = .nop b47 b12 := by
  cases b47 <;> cases b12 <;> rfl

theorem decode_eq_nop_iff {w : Microword} : (∃ b47 b12, decode w = .nop b47 b12) ↔ isNop w = true := by
  constructor
  · rintro ⟨b47, b12, named⟩
    rw [← encode_decode w, named]
    exact isNop_encode_nop b47 b12
  · intro nop
    exact ⟨_, _, decode_of_nop nop⟩

/-- Settles O1: `parse` undoes `pack`, and a well-formed instruction is the name of its fields. -/
theorem decodeOfEncode : Obligations.DecodeOfEncode := by
  intro i wf
  by_cases nop : ∃ b b', i = .nop b b'
  · obtain ⟨b, b', rfl⟩ := nop
    exact decode_encode_nop b b'
  · have notNop : ∀ b b', i ≠ .nop b b' := fun b b' e => nop ⟨b, b', e⟩
    rw [decode_of_not_nop (isNop_encode_of_wf wf notNop), encode, Micro.parse_pack, Instr.name_micro wf notNop]

/-- Settles O2: `pack` undoes `parse`, and the name of a word's fields is well-formed and has these fields. -/
theorem encodeOfDecode : Obligations.EncodeOfDecode := fun w => ⟨decode_wf w, encode_decode w⟩

/-- Settles O4, by the words `isNop` accepts. -/
theorem nopWordsAndTheirMeaning : Obligations.NopWordsAndTheirMeaning := by
  refine ⟨fun w => ?_, Machine.exec_nop⟩
  rw [decode_eq_nop_iff, isNop_iff]
  constructor
  · rintro ⟨b47, b12, rfl⟩
    cases b47 <;> cases b12 <;> decide
  · rintro (rfl | rfl | rfl | rfl)
    · exact ⟨false, false, rfl⟩
    · exact ⟨false, true, rfl⟩
    · exact ⟨true, false, rfl⟩
    · exact ⟨true, true, rfl⟩

/-- Settles O5: instructions of one word have the same fields, and execution sees nothing else. -/
theorem rowsOfOneWordAgree : Obligations.RowsOfOneWordAgree := by
  intro i j s sameWord iNotNop jNotNop
  rw [Machine.exec_eq_runMicro i s iNotNop, Machine.exec_eq_runMicro j s jNotNop, Micro.pack_injective sameWord]

/-- Settles O3, by evaluation of the decoder. -/
theorem decodeOfSpecWords : Obligations.DecodeOfSpecWords := by
  unfold Obligations.DecodeOfSpecWords
  decide

end Sys2Proof

/-! SUPPORT. The cycle before execution (R130 to R138): polls do not look at the pipeline, and the steps of `prepare`
add up to `Ruled.straight` or `Ruled.stalled` with the pending OA bits merged in. -/

namespace Sys2Proof.Machine

open Sys2Proof.Ruled

/-! ### Polls and the rest of the state -/

theorem pollFast_withDevicePart {t s : State} (sameRam : t.ramLast = s.ramLast) :
    pollFast (withDevicePart t s) = withDevicePart t (pollFast s) :=
  devCalls_withDevicePart _ (s := { s with pollFast := s.pollFast.tail }) sameRam

theorem pollSlow_withDevicePart {t s : State} (sameRam : t.ramLast = s.ramLast) (sameCycle : t.cycles = s.cycles) :
    pollSlow (withDevicePart t s) = withDevicePart t (pollSlow s) := by
  have cycles : (withDevicePart t s).cycles.toNat = s.cycles.toNat := congrArg BitVec.toNat sameCycle
  unfold pollSlow
  rw [cycles]
  split
  · exact devCalls_withDevicePart _ (s := { s with pollSlow := s.pollSlow.tail }) sameRam
  · rfl

theorem pollFast_frame (s : State) : deviceFrame s (pollFast s) :=
  deviceFrame.trans (t := { s with pollFast := s.pollFast.tail }) rfl (devCalls_frame _ _)

/-- A poll neither reads nor writes what a device does not touch, but for `ramLast` and the cycle count (R131). -/
theorem poll_withDevicePart {t s : State} (sameRam : t.ramLast = s.ramLast) (sameCycle : t.cycles = s.cycles) :
    poll (withDevicePart t s) = withDevicePart t (poll s) := by
  have ramFast : t.ramLast = (pollFast s).ramLast := by rw [pollFast_frame s, sameRam]
  have cycleFast : t.cycles = (pollFast s).cycles := by rw [pollFast_frame s, sameCycle]
  unfold poll
  rw [pollFast_withDevicePart sameRam, pollSlow_withDevicePart ramFast cycleFast]

theorem poll_withPrefetch (s : State) (w : Microword) (a : MicroPc) :
    poll { s with p1 := w, p1Pc := a } = { poll s with p1 := w, p1Pc := a } := by
  have polled : poll (withDevicePart { s with p1 := w, p1Pc := a } s) = _ := poll_withDevicePart rfl rfl
  refine polled.trans ?_
  rw [poll_frame s]
  rfl

/-! ### The cycle before execution -/

theorem nextCycle_eq (c : BitVec 32) : nextCycle c = if c = 0xFFFFFFFF then 1 else c + 1 := by
  have wraps : c + 1 = 0 ↔ c = 0xFFFFFFFF := by bv_omega
  simp only [nextCycle, wraps]

/-- Nothing is modified where no OA register is pending. -/
theorem mergeOa_of_not_pending {s : State} (lo : s.oaLoSet = false) (hi : s.oaHiSet = false) : mergeOa s = s := by
  cases s
  dsimp only at lo hi
  subst lo hi
  simp [mergeOa, oaBits]

/-- Poll, count, delayed load and one move of the pipeline, with the record of the history (R130 to R135, R138). -/
theorem straight_eq (s : State) :
    straight s = recordHistory (advancePipe (delayedMdLoad (countCycle (poll s)))) := by
  have polled := poll_frame s
  rw [delayedMdLoad_eq, straight]
  generalize poll s = u at polled ⊢
  rw [polled]
  simp only [countCycle, nextCycle_eq]
  rfl

/-- The same with a second move of the pipeline (R136). -/
theorem stalled_eq (s : State) :
    stalled s = recordHistory
      (advancePipe { advancePipe (delayedMdLoad (countCycle (poll s))) with noExecNext := false }) := by
  have polled := poll_frame s
  have twice : s.uPc + 2 = s.uPc + 1 + 1 := by bv_omega
  rw [delayedMdLoad_eq, stalled, straight, twice]
  generalize poll s = u at polled ⊢
  rw [polled]
  simp only [countCycle, nextCycle_eq]
  rfl

/-- The state the merge finds, with the history that is recorded after it: `straight`, or `stalled` where the stall
flag is set. -/
def arranged (s : State) : State := if s.noExecNext then stalled s else straight s

theorem prepare_eq_mergeOa (s : State) : prepare s = mergeOa (arranged s) := by
  have flag : (advancePipe (delayedMdLoad (countCycle (poll s)))).noExecNext = s.noExecNext := by
    rw [delayedMdLoad_eq, poll_frame s]
    rfl
  rw [arranged, stalled_eq, straight_eq, ← flag]
  unfold prepare stall
  split <;> rfl

theorem arranged_of_noExecNext {s : State} (stalls : s.noExecNext = true) : arranged s = stalled s := if_pos stalls

theorem arranged_of_not_noExecNext {s : State} (runs : s.noExecNext = false) : arranged s = straight s := by
  simp [arranged, runs]

theorem arranged_p0 (s : State) : (arranged s).p0 = if s.noExecNext then fetch (poll s) s.uPc else s.p1 := by
  unfold arranged
  split <;> rfl

/-- Nothing but the pipeline differs between a cycle with a stall and one without. -/
theorem arranged_eq_straight (s : State) :
    arranged s = { straight s with
      noExecNext := (arranged s).noExecNext, p0 := (arranged s).p0, p0Pc := (arranged s).p0Pc
      p1 := (arranged s).p1, p1Pc := (arranged s).p1Pc, uPc := (arranged s).uPc
      pcHistory := (arranged s).pcHistory } := by
  unfold arranged
  split <;> rfl

theorem arranged_oaLoSet (s : State) : (arranged s).oaLoSet = s.oaLoSet := by
  rw [arranged_eq_straight, straight, poll_frame s]

theorem arranged_oaHiSet (s : State) : (arranged s).oaHiSet = s.oaHiSet := by
  rw [arranged_eq_straight, straight, poll_frame s]

theorem oaBits_arranged (s : State) : oaBits (arranged s) = oaBits s := by
  rw [arranged_eq_straight, straight, poll_frame s]
  rfl

/-! ### One step -/

theorem step_of_run {s : State} (run : s.run = true) : step s = exec (decode (prepare s).p0) (prepare s) := if_pos run

theorem prepare_of_not_pending {s : State} (lo : s.oaLoSet = false) (hi : s.oaHiSet = false) :
    prepare s = arranged s := by
  rw [prepare_eq_mergeOa,
    mergeOa_of_not_pending ((arranged_oaLoSet s).trans lo) ((arranged_oaHiSet s).trans hi)]

/-- Settles O6: without stall and modify the cycle ends in `straight`, whose `p0` decodes to the instruction. -/
theorem stepRunsTheDecodedInstruction : Obligations.StepRunsTheDecodedInstruction := by
  intro i s wf run noStall lo hi word
  have decoded : decode (straight s).p0 = i := (congrArg decode word).trans (decodeOfEncode i wf)
  rw [step_of_run run, prepare_of_not_pending lo hi, arranged_of_not_noExecNext noStall, decoded]

/-- A cycle with a stall does not see the prefetched word or its address (R136). -/
theorem stalled_withPrefetch (s : State) (w : Microword) (a : MicroPc) :
    stalled { s with p1 := w, p1Pc := a } = stalled s := by
  simp only [stalled, straight, poll_withPrefetch]
  rfl

theorem step_of_stall {s : State} (run : s.run = true) (stalls : s.noExecNext = true) (lo : s.oaLoSet = false)
    (hi : s.oaHiSet = false) : step s = exec (decode (stalled s).p0) (stalled s) := by
  rw [step_of_run run, prepare_of_not_pending lo hi, arranged_of_noExecNext stalls]

/-- Settles O7: the cycle ends in `stalled`, and `stalled` does not see the prefetch. -/
theorem stallDiscardsOneWord : Obligations.StallDiscardsOneWord := by
  intro s run stalls lo hi
  have stepped := step_of_stall run stalls lo hi
  refine ⟨stepped, fun w a => ?_⟩
  rw [stepped, ← stalled_withPrefetch s w a]
  exact step_of_stall run stalls lo hi

/-- Settles O8: the merge, word by word and flag by flag. -/
theorem modifyMergesIntoTheNextWord : Obligations.ModifyMergesIntoTheNextWord := by
  intro s run w
  have merged : (arranged s).p0 ||| oaBits (arranged s) = w := by
    rw [arranged_p0, oaBits_arranged, oaBits, ← BitVec.or_assoc]
  have prepared : prepare s = { arranged s with p0 := w, oaLoSet := false, oaHiSet := false } := by
    rw [prepare_eq_mergeOa, mergeOa, merged]
  rw [step_of_run run, prepared]
  rfl

theorem prepare_newMd (s : State) : (prepare s).newMd = s.newMd := by
  rw [prepare_eq_mergeOa, mergeOa_newMd, arranged_eq_straight, straight, poll_frame s]

theorem prepare_md (s : State) : (prepare s).md = if s.newMdDelay = 1 then s.newMd else s.md := by
  rw [prepare_eq_mergeOa, mergeOa_md, arranged_eq_straight, straight]

theorem prepare_newMdDelay (s : State) : (prepare s).newMdDelay = if s.newMdDelay = 2 then 1 else 0 := by
  rw [prepare_eq_mergeOa, mergeOa_newMdDelay, arranged_eq_straight, straight]

/-- Settles O10: the state the word executes in holds what the delayed load left (R133). -/
theorem readDataReachesMdInTwoCycles : Obligations.ReadDataReachesMdInTwoCycles := by
  intro s run
  refine ⟨prepare s, step_of_run run, prepare_newMd s, fun two => ?_, fun one => ?_, fun zero => ?_⟩
  · simp [prepare_md, prepare_newMdDelay, two]
  · simp [prepare_md, prepare_newMdDelay, one]
  · simp [prepare_md, prepare_newMdDelay, zero]

end Sys2Proof.Machine

/-! SUPPORT. Transfers and returns (R140 to R142, R257, R258): the return by the SPC stack, and what `resolveJump`, a
JUMP word and a DISPATCH word leave, in the terms of `Ruled`. -/

namespace Sys2Proof.Machine

open Sys2Proof.Ruled

/-! ### Returns -/

theorem popReturn_of_plain {s : State} (plain : (spcTop s).getLsbD 14 = false) :
    popReturn s = ((spcTop s).extractLsb' 0 14, spcDrop s) := if_neg (ne_true_of_eq_false plain)

theorem popReturn_of_advance {s : State} (advances : (spcTop s).getLsbD 14 = true) :
    popReturn s =
      ((advanceLc (spcTop s) (spcDrop s)).1.extractLsb' 0 14, (advanceLc (spcTop s) (spcDrop s)).2) := if_pos advances

/-- Settles O25: the top entry is `spcTop`, its pop is `spcDrop`, and its bit 14 asks for the advance. -/
theorem returnsPopTheStack : Obligations.ReturnsPopTheStack := by
  intro s e
  refine ⟨fun plain => ?_, fun advances => ?_⟩
  · rw [doPopj, popReturn_of_plain plain]
    rfl
  · rw [doPopj, popReturn_of_advance advances]
    rfl

/-! ### Transfers -/

/-- A pop right after the push of an address gives that address and the old pointer back (R141). -/
theorem popReturn_spcPush (a : MicroPc) (s : State) :
    popReturn (spcPush (a.setWidth 19) s) = (a, { s with spc := s.spc.set (s.spcPtr + 1).toNat (a.setWidth 19) }) := by
  have plain : (spcTop (spcPush (a.setWidth 19) s)).getLsbD 14 = false := by simp [spcTop_spcPush]
  have address : (a.setWidth 19).extractLsb' 0 14 = a := by
    ext i hi
    simpa [hi] using fun _ => by omega
  have pointer : s.spcPtr + 1 - 1 = s.spcPtr := by bv_omega
  rw [popReturn_of_plain plain, spcTop_spcPush, address, spcDrop, spcPush_spcPtr, pointer]
  rfl

theorem resolveJump_taken (target : MicroPc) (r p n : Bool) (s : State) :
    resolveJump target r p n true none s = transfer target r p n s := by
  cases r <;> cases p <;> rfl

/-- A transfer with P and R both set returns to the address it has just pushed. -/
theorem transfer_call_return (target : MicroPc) (n : Bool) (s : State) :
    transfer target true true n s =
      goto (returnTo n s) n { s with spc := s.spc.set (s.spcPtr + 1).toNat ((returnTo n s).setWidth 19) } := by
  have popped : popReturn (pushed (returnTo n s) s) = _ := popReturn_spcPush (returnTo n s) s
  simp only [transfer, if_true, popped]

/-- The 48 bits a self-write stores, by concatenation and by masks (R123). -/
theorem selfWriteWord_eq (a m : Word) : selfWriteWord a m = selfWord a m := by
  have mask : (a &&& 0xFFFF).toNat = a.toNat % 2 ^ 16 := Nat.and_two_pow_sub_one_eq_mod a.toNat 16
  have high : ((a &&& 0xFFFF).setWidth 48 <<< 32).toNat = (a.extractLsb' 0 16).toNat <<< 32 := by
    rw [BitVec.toNat_shiftLeft, BitVec.toNat_setWidth, mask, BitVec.extractLsb'_toNat, Nat.shiftRight_zero,
      Nat.shiftLeft_eq, Nat.shiftLeft_eq]
    omega
  have low : (m.setWidth 48).toNat = m.toNat := by
    rw [BitVec.toNat_setWidth]
    omega
  apply BitVec.eq_of_toNat_eq
  calc (selfWriteWord a m).toNat
      _ = (a.extractLsb' 0 16).toNat <<< 32 ||| m.toNat := BitVec.toNat_append _ _
      _ = (selfWord a m).toNat := by rw [selfWord, BitVec.toNat_or, high, low]

/-- With the condition true a JUMP transfers; a self-write is stored before. -/
theorem resolveJump_jumpTaken (op : JumpOp) (a m : Word) (s : State) :
    resolveJump op.bits.jaddr op.r op.p op.bits.n true (some (selfWriteWord a m)) s =
      jumpTaken op.bits op.r op.p a m s := by
  rw [resolveJump_selfWrite, resolveJump_taken, jumpTaken, selfWriteWord_eq]
  cases both : op.p && op.r with
  | false => rfl
  | true =>
    obtain ⟨p, r⟩ := Bool.and_eq_true_iff.mp both
    rw [p, r, if_pos rfl, transfer_call_return]
    rfl

/-- With the condition false the word of a self-write is stored all the same (R257). -/
theorem resolveJump_jumpNotTaken (op : JumpOp) (a m : Word) (s : State) :
    resolveJump op.bits.jaddr op.r op.p op.bits.n false (some (selfWriteWord a m)) s =
      if op.p && op.r then selfWritten op.bits a m s else s := by
  rw [resolveJump_selfWrite, resolveJump_untaken, selfWriteWord_eq]
  cases op.p && op.r <;> rfl

/-- What a JUMP word leaves after its M-source read (R240). -/
theorem finishJump_eq (popj : Bool) (op : JumpOp) (m : Word) (s : State) :
    let a := readAMem s op.bits.asrc
    finishJump popj op m s = jumpDone popj op.bits op.misc op.r op.p (testCondition op.test m a s) a m s := by
  intro a
  simp only [finishJump, jumpDone, readA, beq_iff_eq, Bool.bne_eq_xor]
  cases testCondition op.test m a s ^^ op.bits.inv with
  | true =>
    simp only [resolveJump_jumpTaken, Bool.not_true, Bool.and_false, if_true]
    rfl
  | false =>
    simp only [resolveJump_jumpNotTaken, Bool.not_false, Bool.and_true]
    rfl

/-- What a dispatching DISPATCH word leaves after its M-source read (R270 to R280). -/
theorem finishDispatch_eq_dispatchDone (popj : Bool) (kind : DispKind) (b : DispBits) (m : Word) (s : State) :
    finishDispatch popj kind b m s =
      dispatchDone popj b (if kind = .posmod then position b.drot s.lc else b.drot) m s := by
  simp only [finishDispatch_eq, resolveJump_taken, dispatchDone]

/-- Settles O32: the POPJ row is the word with its POPJ bit set, class by class. -/
theorem popjRow : Obligations.PopjRow := by
  intro g src s m t
  have row : ∀ body, exec (.popj g src body) s = .next (withSource true body m t s) := fun body =>
    congrArg Host.Outcome.next (runMicro_eq_withSource ⟨⟨g, true, src⟩, body⟩ s)
  refine ⟨fun op d => row (.bus op d), fun op => ?jump, fun b => row (.disp ⟨.write, b⟩), fun b => ⟨?_, ?_, ?_⟩⟩
  case jump => exact (row (.jump op)).trans (congrArg _ (finishJump_eq true op m t))
  · exact (row (.disp ⟨.normal, b⟩)).trans (congrArg _ (finishDispatch_eq_dispatchDone true .normal b m t))
  · exact (row (.disp ⟨.misc1, b⟩)).trans (congrArg _ (finishDispatch_eq_dispatchDone true .misc1 b m t))
  · exact (row (.disp ⟨.posmod, b⟩)).trans (congrArg _ (finishDispatch_eq_dispatchDone true .posmod b m t))

end Sys2Proof.Machine

/-! SUPPORT. M-sources (R151 to R168): the packed source words in the shifts and masks of the rules, and a word seen
from its M-source row. -/

namespace Sys2Proof.Machine

open Sys2Proof.Ruled

/-! ### The packed source words -/

/-- The fields of SPC-PTR-AND-DATA by shifts (R155). -/
theorem spcWord_eq (s : State) :
    spcWord s = (s.spcPtr.setWidth 32 <<< 24) ||| (s.spc.get s.spcPtr.toNat).setWidth 32 := by
  calc spcWord s
      _ = (0#3 ++ s.spcPtr ++ 0#5 ++ spcTop s).setWidth 32 := (BitVec.setWidth_eq _).symm
      _ = ((0#3).setWidth 32 <<< 29) ||| (s.spcPtr.setWidth 32 <<< 24) ||| ((0#5).setWidth 32 <<< 19) |||
            (spcTop s).setWidth 32 := BitVec.setWidth_append_append_append_eq_shiftLeft_setWidth_or
      _ = (s.spcPtr.setWidth 32 <<< 24) ||| (spcTop s).setWidth 32 := by simp

/-- The fields of MAP-MD by shifts (R162). -/
theorem mapWord_eq (s : State) :
    let map := translateVa s (BitVec.ofNat 24 s.md.toNat)
    mapWord s =
      ((flagBit s.writeFault).setWidth 32 <<< 31) ||| ((flagBit s.accessFault).setWidth 32 <<< 30) |||
        (map.l1.setWidth 32 <<< 24) ||| map.l2.setWidth 32 := by
  intro map
  calc mapWord s
      _ = (flagBit s.writeFault ++ flagBit s.accessFault ++ 0#1 ++ map.l1 ++ map.l2).setWidth 32 :=
        (BitVec.setWidth_eq _).symm
      _ = ((flagBit s.writeFault ++ flagBit s.accessFault).setWidth 32 <<< 30) ||| ((0#1).setWidth 32 <<< 29) |||
            (map.l1.setWidth 32 <<< 24) ||| map.l2.setWidth 32 :=
        BitVec.setWidth_append_append_append_eq_shiftLeft_setWidth_or
      _ = _ := by
        rw [BitVec.setWidth_append_eq_shiftLeft_setWidth_or, BitVec.shiftLeft_or_distrib, ← BitVec.shiftLeft_add]
        simp

/-! ### A word seen from its M-source row -/

/-- A word whose M-source gives `m` and leaves `t` goes on with them (R144, R151). -/
theorem exec_of_readM {i : Instr} {s t : State} {m : Word} (notNop : ∀ b b', i ≠ .nop b b')
    (read : readM i.micro.head.src s = (m, t)) :
    exec i s = .next (withSource i.micro.head.popj i.micro.body m t s) := by
  rw [exec_eq_runMicro i s notNop, runMicro_eq_withSource, read]

/-- A word whose M-source is undefined goes on with the value drawn (R168, log 5). -/
theorem exec_of_undefinedSource {i : Instr} {s : State} (notNop : ∀ b b', i ≠ .nop b b')
    (undefined : readM i.micro.head.src s = drawSource s) :
    ∃ v, exec i s =
      .next (withSource i.micro.head.popj i.micro.body v { s with freeCount := s.freeCount + 1 } s) :=
  ⟨_, exec_of_readM notNop undefined⟩

/-- Settles O33: each read leaves the state as it is; the registers narrower than a word are zero-extended, and
SPC-PTR-AND-DATA is `spcWord_eq`. -/
theorem plainSources : Obligations.PlainSources := by
  intro g pj body s top
  simp only [BitVec.ofNat_toNat]
  refine ⟨fun a => ?m, ?dispatchConstant, ?spc, ?pdlPointer, ?pdlIndex, ?pdlByIndex, ?opc, ?q, ?vma, ?md, ?lc,
    ?pdlByPointer⟩
  case spc => exact exec_of_readM nofun (congrArg (·, s) (spcWord_eq s))
  all_goals exact exec_of_readM nofun rfl

/-- Settles O34: the value is computed before the pointer moves, and the probe writes the inert cache only
(`noteWalk_eq`). -/
theorem poppingAndProbingSources : Obligations.PoppingAndProbingSources := by
  intro g pj body s top map
  refine ⟨?spcPop, ?pdlPop, noteWalk (probeAddress s) s, noteWalk_eq _ s, ?mapMd⟩
  case spcPop => exact exec_of_readM nofun (congrArg (·, spcDrop s) (spcWord_eq s))
  case pdlPop => exact exec_of_readM nofun rfl
  case mapMd => exact exec_of_readM nofun (congrArg (·, noteWalk (probeAddress s) s) (mapWord_eq s))

/-- Settles O35: all 18 codes draw a free value. -/
theorem undefinedSources : Obligations.UndefinedSources := by
  intro g pj body s t
  and_intros
  all_goals exact exec_of_undefinedSource nofun rfl

end Sys2Proof.Machine

/-! SUPPORT. The ALU class (R180 to R230): the output selector and Q control by shifts, the adder by exact sums, and an
ALU word seen from its function row, its selector row or its Q control row. -/

namespace Sys2Proof.Machine

open Sys2Proof.Ruled

/-! ### Output selector and Q control -/

theorem append_flagBit_eq_shiftLeft_or (x : Word) (b : Bool) :
    (x.extractLsb' 0 31 : BitVec 31) ++ flagBit b = (x <<< 1) ||| (flagBit b).setWidth 32 := by
  have shifted : (x.extractLsb' 0 31).setWidth 32 <<< 1 = x <<< 1 := by
    apply BitVec.eq_of_toNat_eq
    simp only [BitVec.toNat_shiftLeft, BitVec.toNat_setWidth, BitVec.extractLsb'_toNat, Nat.shiftLeft_eq]
    omega
  calc (x.extractLsb' 0 31 : BitVec 31) ++ flagBit b
      _ = ((x.extractLsb' 0 31 ++ flagBit b : BitVec 32)).setWidth 32 := (BitVec.setWidth_eq _).symm
      _ = ((x.extractLsb' 0 31).setWidth 32 <<< 1) ||| (flagBit b).setWidth 32 :=
        BitVec.setWidth_append_eq_shiftLeft_setWidth_or
      _ = (x <<< 1) ||| (flagBit b).setWidth 32 := by rw [shifted]

theorem flagBit_append_eq_shiftRight_or (x : Word) (b : Bool) :
    flagBit b ++ (x.extractLsb' 1 31 : BitVec 31) = (x >>> 1) ||| ((flagBit b).setWidth 32 <<< 31) := by
  have shifted : (x.extractLsb' 1 31).setWidth 32 = x >>> 1 := by
    apply BitVec.eq_of_toNat_eq
    simp only [BitVec.toNat_setWidth, BitVec.extractLsb'_toNat, BitVec.toNat_ushiftRight]
    omega
  calc flagBit b ++ (x.extractLsb' 1 31 : BitVec 31)
      _ = ((flagBit b ++ x.extractLsb' 1 31 : BitVec 32)).setWidth 32 := (BitVec.setWidth_eq _).symm
      _ = ((flagBit b).setWidth 32 <<< 31) ||| (x.extractLsb' 1 31).setWidth 32 :=
        BitVec.setWidth_append_eq_shiftLeft_setWidth_or
      _ = (x >>> 1) ||| ((flagBit b).setWidth 32 <<< 31) := by rw [shifted, BitVec.or_comm]

theorem flagBit_toNat (b : Bool) : (flagBit b).toNat = b.toNat := by cases b <;> rfl

theorem flagBit_topBit_eq_shiftRight (x : Word) : (flagBit (x.getLsbD 31)).setWidth 32 = x >>> 31 := by
  apply BitVec.eq_of_toNat_eq
  simp only [BitVec.getLsbD, BitVec.toNat_setWidth, flagBit_toNat, Nat.toNat_testBit, BitVec.toNat_ushiftRight]
  omega

theorem flagBit_lowBit_eq_and_one (x : Word) : (flagBit (x.getLsbD 0)).setWidth 32 = x &&& 1 :=
  BitVec.and_one_eq_setWidth_ofBool_getLsbD.symm

theorem flagBit_not (b : Bool) : (flagBit !b).setWidth 32 = (1 - (flagBit b).setWidth 32 : Word) := by
  cases b <;> rfl

theorem outputSelect_eq_bus (ob : OutSel) (r : AluResult) (oldQ : Word) :
    outputSelect ob r oldQ = bus ob r.out r.carry oldQ := by
  cases ob with
  | undef | alu => rfl
  | r1 => rw [outputSelect, bus, flagBit_append_eq_shiftRight_or]
  | l1 => rw [outputSelect, bus, append_flagBit_eq_shiftLeft_or, flagBit_topBit_eq_shiftRight]

theorem qControl_eq_newQ (qc : QCtl) (oldQ out : Word) : qControl qc oldQ out = newQ qc oldQ out := by
  cases qc with
  | none | qload => rfl
  | ql =>
    rw [qControl, newQ, append_flagBit_eq_shiftLeft_or, flagBit_not, flagBit_topBit_eq_shiftRight]
    rfl
  | qr => rw [qControl, newQ, flagBit_append_eq_shiftRight_or, flagBit_lowBit_eq_and_one]

/-! ### The adder -/

/-- The 33-bit sum holds the exact one (R182). -/
theorem add33_eq (x y : Word) (c : Bool) : add33 x y c = ⟨sum x y c, carry x y c⟩ := by
  have small := Bool.toNat_le c
  have exact33 : (x.setWidth 33 + y.setWidth 33 + (flagBit c).setWidth 33).toNat = x.toNat + y.toNat + c.toNat := by
    simp only [BitVec.toNat_add, BitVec.toNat_setWidth, flagBit_toNat]
    omega
  simp only [add33, AluResult.mk.injEq]
  constructor
  · rw [← BitVec.ofNat_toNat, exact33, sum]
  · rw [BitVec.getLsbD, exact33, carry, Nat.testBit_eq_decide_div_mod_eq, decide_eq_decide]
    omega

/-- A use of the adder, by its sum and by when the exact sum reaches 2^32. -/
theorem aluSum_eq_aluDone {h : Head} {d : Dest} {ob : OutSel} {qc : QCtl} {t : State} {x y out : Word} {c : Bool}
    {p : Prop} [Decidable p] (sum_eq : sum x y c = out) (carry_iff : 2 ^ 32 ≤ x.toNat + y.toNat + c.toNat ↔ p) :
    aluSum h d ob qc t x y c = aluDone h d ob qc t out (decide p) := by
  simp only [aluSum, carry, sum_eq, carry_iff]

section NamedForms
variable (h : Head) (d : Dest) (ob : OutSel) (qc : QCtl) (t : State) (m a : Word)

theorem aluSum_sub : aluSum h d ob qc t m (~~~a) true = aluDone h d ob qc t (m - a) (decide (a ≤ m)) :=
  aluSum_eq_aluDone (by unfold sum; bv_omega) (by bv_omega)

theorem aluSum_increment :
    aluSum h d ob qc t m 0 true = aluDone h d ob qc t (m + 1) (decide (m = 0xFFFFFFFF)) :=
  aluSum_eq_aluDone (by unfold sum; bv_omega) (by bv_omega)

theorem aluSum_add : aluSum h d ob qc t m a false = aluDone h d ob qc t (m + a) (decide (m + a < m)) :=
  aluSum_eq_aluDone (by unfold sum; bv_omega) (by bv_omega)

theorem aluSum_decrement :
    aluSum h d ob qc t m 0xFFFFFFFF false = aluDone h d ob qc t (m - 1) (decide (m ≠ 0)) :=
  aluSum_eq_aluDone (by unfold sum; bv_omega) (by bv_omega)

theorem aluSum_double : aluSum h d ob qc t m m false = aluDone h d ob qc t (m <<< 1) (m.getLsbD 31) := by
  have sum_eq : sum m m false = m <<< 1 := by unfold sum; bv_omega
  have carry_iff : 2 ^ 32 ≤ m.toNat + m.toNat + false.toNat ↔ m.getLsbD 31 = true := by
    rw [BitVec.getLsbD, Nat.testBit_eq_decide_div_mod_eq, decide_eq_true_iff]
    bv_omega
  rw [aluSum_eq_aluDone sum_eq carry_iff, Bool.decide_eq_true]

end NamedForms

/-! ### An ALU word and its row -/

theorem aluWord_eq_aluRow (h : Head) (d : Dest) (b : AluBits) (fn : AluFn) (ob : OutSel) (qc : QCtl) (s : State) :
    aluWord h ⟨fn, ob, qc, b⟩ d s = aluRow h d b fn ob qc s := by
  simp only [aluWord, finishBus, busWrites, busValue, outputSelect_eq_bus, qControl_eq_newQ, aluRow, readA]
  cases aluFunction fn (readM h.src s).1 (readAMem (readM h.src s).2 b.asrc) b.cin ((readM h.src s).2.q.getLsbD 0) with
  | none => rfl
  | some r =>
    simp only [aluDone]
    cases bus ob r.out r.carry (readM h.src s).2.q <;> rfl

theorem aluRow_undefinedSelector (h : Head) (d : Dest) (b : AluBits) (fn : AluFn) (qc : QCtl) (s : State) :
    aluRow h d b fn .undef qc s = popjIf h.popj (readM h.src s).2 := by
  unfold aluRow
  dsimp only
  split <;> rfl

section Words
variable {i : Instr} {h : Head} {d : Dest} {b : AluBits} {fn : AluFn} {ob : OutSel} {qc : QCtl} {s : State}

/-- A word of the ALU class, by whichever row it is named, does what its function, selector and Q control say. -/
theorem exec_eq_aluRow (notNop : ∀ b b', i ≠ .nop b b') (fields : i.micro = ⟨h, .bus (.alu ⟨fn, ob, qc, b⟩) d⟩) :
    exec i s = .next (aluRow h d b fn ob qc s) := by
  rw [exec_eq_runMicro i s notNop, fields, ← aluWord_eq_aluRow, runMicro]

/-- An ALU word whose function is defined; `q0` is `Q[0]` before the instruction. -/
theorem exec_of_result {out : Word} {carry q0 : Bool} (notNop : ∀ b b', i ≠ .nop b b')
    (fields : i.micro = ⟨h, .bus (.alu ⟨fn, ob, qc, b⟩) d⟩) (q0_eq : (readM h.src s).2.q.getLsbD 0 = q0)
    (result : aluFunction fn (readM h.src s).1 (readAMem (readM h.src s).2 b.asrc) b.cin q0 = some ⟨out, carry⟩) :
    exec i s = .next (aluDone h d ob qc (readM h.src s).2 out carry) := by
  rw [exec_eq_aluRow notNop fields]
  simp only [aluRow, q0_eq, result]

/-- An ALU word whose function is one use of the adder. -/
theorem exec_of_sum {x y : Word} {c q0 : Bool} (notNop : ∀ b b', i ≠ .nop b b')
    (fields : i.micro = ⟨h, .bus (.alu ⟨fn, ob, qc, b⟩) d⟩) (q0_eq : (readM h.src s).2.q.getLsbD 0 = q0)
    (result : aluFunction fn (readM h.src s).1 (readAMem (readM h.src s).2 b.asrc) b.cin q0 = some (add33 x y c)) :
    exec i s = .next (aluSum h d ob qc (readM h.src s).2 x y c) :=
  exec_of_result notNop fields q0_eq (result.trans (congrArg some (add33_eq x y c)))

/-- An ALU word whose function is undefined (R185, log 2). -/
theorem exec_of_undefinedFunction (notNop : ∀ b b', i ≠ .nop b b')
    (fields : i.micro = ⟨h, .bus (.alu ⟨fn, ob, qc, b⟩) d⟩)
    (undefined : ∀ m a cin q0, aluFunction fn m a cin q0 = none) :
    exec i s = .next (popjIf h.popj (readM h.src s).2) := by
  rw [exec_eq_aluRow notNop fields]
  simp only [aluRow, undefined]

end Words

/-! ### The statements -/

/-- Settles O16: each function gives its result with carry 0; ANDCB, EQV and ORCB are spelled in another way by the
rules. -/
theorem booleanFunctions : Obligations.BooleanFunctions := by
  intro h d b ob qc s m t a
  refine ⟨?setz, ?and, ?andca, ?setm, ?andcm, ?seta, ?xor, ?ior, ?andcb, ?eqv, ?setca, ?orca, ?setcm, ?orcm, ?orcb,
    ?seto⟩
  case andcb => exact exec_of_result nofun rfl rfl (congrArg (some <| logical ·) BitVec.not_or.symm)
  case eqv => exact exec_of_result nofun rfl rfl (congrArg (some <| logical ·) BitVec.not_xor_left)
  case orcb => exact exec_of_result nofun rfl rfl (congrArg (some <| logical ·) BitVec.not_and.symm)
  all_goals exact exec_of_result nofun rfl rfl rfl

/-- Settles O17: each function is one use of the adder, whose 33 bits hold the exact sum (`add33_eq`). -/
theorem arithmeticFunctions : Obligations.ArithmeticFunctions := by
  intro h d b ob qc s m t a
  and_intros
  all_goals exact exec_of_sum nofun rfl rfl rfl

/-- Settles O18: the sums of the functions with that carry-in. -/
theorem namedArithmeticForms : Obligations.NamedArithmeticForms := by
  intro h d b ob qc s m t a
  refine ⟨fun cin => ⟨?sub, ?incm⟩, fun cin => ⟨?add, ?decm, ?lshm⟩⟩
  case' sub => rw [← aluSum_sub]
  case' incm => rw [← aluSum_increment]
  case' add => rw [← aluSum_add]
  case' decm => rw [← aluSum_decrement]
  case' lshm => rw [← aluSum_double]
  all_goals
    rw [← cin]
    exact exec_of_sum nofun rfl rfl rfl

/-- Settles O19: by `Q[0]` before the instruction, each step is one use of the adder or passes M through. -/
theorem stepFunctions : Obligations.StepFunctions := by
  intro h d b ob qc s m t a q0
  cases q0_eq : q0 with
  | true =>
    exact ⟨exec_of_sum nofun rfl q0_eq rfl, exec_of_sum nofun rfl q0_eq rfl, exec_of_result nofun rfl q0_eq rfl,
      exec_of_sum nofun rfl q0_eq rfl⟩
  | false =>
    exact ⟨exec_of_result nofun rfl q0_eq rfl, exec_of_sum nofun rfl q0_eq rfl, exec_of_sum nofun rfl q0_eq rfl,
      exec_of_sum nofun rfl q0_eq rfl⟩

/-- Settles O21: every word is its row (`exec_eq_aluRow`), and the undefined selector drives no bus. -/
theorem outputSelectorsAndQControls : Obligations.OutputSelectorsAndQControls := by
  intro h d b fn qc s
  refine ⟨?undefined, ?alu, ?r1, ?l1, fun ob => ⟨?none, ?ql, ?qr, ?qload⟩⟩
  case' undefined => rw [← aluRow_undefinedSelector h d b fn qc s]
  all_goals exact exec_eq_aluRow nofun rfl

/-- Settles O20: all 28 codes give no result. -/
theorem undefinedFunctions : Obligations.UndefinedFunctions := by
  intro h d b ob qc s t
  and_intros
  all_goals exact exec_of_undefinedFunction nofun rfl fun _ _ _ _ => rfl

end Sys2Proof.Machine

/-! SUPPORT. The JUMP class (R240 to R259): the conditions in the terms of the rules, and a JUMP word seen from any of
its rows. -/

namespace Sys2Proof.Machine

open Sys2Proof.Ruled

/-! ### The conditions -/

theorem toInt_eq_signed32 (v : Word) : v.toInt = signed32 v := by
  rw [BitVec.toInt_eq_toNat_cond, signed32]
  split <;> split <;> omega

/-- A rotation to the left brings bit `(32 - n) mod 32` to the bottom (R251). -/
theorem rotl32_getLsbD_zero (m : Word) (n : BitVec 5) :
    (rotl32 m n).getLsbD 0 = m.getLsbD ((32 - n.toNat) % 32) := by
  have small : n.toNat % 32 = n.toNat := Nat.mod_eq_of_lt n.isLt
  rw [rotl32, BitVec.getLsbD_rotateLeft, small]
  by_cases zero : n.toNat = 0
  · simp [zero]
  · have inside : (32 - n.toNat) % 32 = 32 - n.toNat := by omega
    simp [inside, Nat.pos_of_ne_zero zero]

/-! ### A JUMP word and its row -/

/-- A word of the JUMP class, by whichever row it is named, makes the transfer its test and bits say. -/
theorem exec_eq_jumpRow {i : Instr} {h : Head} {j : JumpBits} {misc : JMisc} {r p : Bool} {c : JTest}
    {cond : Word → Word → State → Bool} {s : State} (notNop : ∀ b b', i ≠ .nop b b')
    (fields : i.micro = ⟨h, .jump ⟨misc, r, p, c, j⟩⟩) (test : ∀ m a t, testCondition c m a t = cond m a t) :
    exec i s = .next (jumpRow h j misc r p cond s) := by
  obtain rfl : testCondition c = cond := funext₃ test
  rw [exec_eq_runMicro i s notNop, fields]
  exact congrArg Host.Outcome.next (finishJump_eq h.popj ⟨misc, r, p, c, j⟩ (readM h.src s).1 (readM h.src s).2)

section Misc
variable (h : Head) (j : JumpBits) (r p : Bool) (cond : Word → Word → State → Bool) (s : State)

/-- Halt stops the engine after the transfer (R252). -/
theorem jumpRow_halt : jumpRow h j .halt r p cond s = { jumpRow h j .none r p cond s with run := false } := rfl

/-- The other values of MISC are ignored (R259, log 7). -/
theorem jumpRow_of_ne_halt {misc : JMisc} (other : misc ≠ .halt) :
    jumpRow h j misc r p cond s = jumpRow h j .none r p cond s := if_neg other

end Misc

/-- JUMP NEVER as a self-write, not inverted, without POPJ and halt, stores its word and does nothing else (R257). -/
theorem jumpRow_never_selfWrite {j : JumpBits} (inv : j.inv = false) (g : Ignored) (ms : BitVec 5) (s : State) :
    jumpRow ⟨g, false, .m ms⟩ j .none true true (fun _ _ _ => false) s =
      selfWritten j (readAMem s j.asrc) (readMMem s ms) s := by
  simp only [jumpRow, jumpDone, inv]
  rfl

/-- The word a self-write stores is read back at the target address and no other word changes (R123, R257). -/
theorem selfWritten_ucode (j : JumpBits) (a m : Word) (t : State) :
    (selfWritten j a m t).ucode.get j.jaddr.toNat = a.extractLsb' 0 16 ++ m ∧
      ∀ k, k ≠ j.jaddr.toNat → (selfWritten j a m t).ucode.get k = t.ucode.get k :=
  ⟨(Store.get_set_self _ _ _).trans (selfWriteWord_eq a m).symm, fun _ other => Store.get_set_ne _ _ other⟩

/-! ### The statements -/

/-- Settles O22: each row is its test (`exec_eq_jumpRow`); the signed comparisons and the bit test are spelled in
another way by the rules. -/
theorem jumpConditions : Obligations.JumpConditions := by
  intro h j misc r p b43 s
  refine ⟨?never, ?lt, ?le, ?eq, ?pf, ?pfi, ?pfis, ?always, fun rot => ?bit⟩
  case lt => exact exec_eq_jumpRow nofun rfl fun m a _ => by rw [← toInt_eq_signed32, ← toInt_eq_signed32]; rfl
  case le => exact exec_eq_jumpRow nofun rfl fun m a _ => by rw [← toInt_eq_signed32, ← toInt_eq_signed32]; rfl
  case bit => exact exec_eq_jumpRow nofun rfl fun m _ _ => rotl32_getLsbD_zero m rot
  all_goals exact exec_eq_jumpRow nofun rfl fun _ _ _ => rfl

/-- Settles O23: the rows of MISC and of the self-write hold any test, and of the values of MISC only halt has an
effect of its own. -/
theorem jumpForms : Obligations.JumpForms := by
  intro h j misc r p c s
  refine ⟨?halt, ?writeUcode, ?misc2, ?misc3⟩
  case' halt => rw [← jumpRow_halt]
  case' misc2 => rw [← jumpRow_of_ne_halt (misc := .misc2) h j r p _ s nofun]
  case' misc3 => rw [← jumpRow_of_ne_halt (misc := .misc3) h j r p _ s nofun]
  all_goals exact exec_eq_jumpRow nofun rfl fun _ _ _ => rfl

/-- Settles O24: the word is stored though the jump is not taken (`jumpRow_never_selfWrite`). -/
theorem selfWriteStoresTheWord : Obligations.SelfWriteStoresTheWord := by
  intro g ms j b43 s inv
  obtain ⟨never, -⟩ := jumpConditions ⟨g, false, .m ms⟩ j .none true true b43 s
  rw [jumpRow_never_selfWrite inv] at never
  exact ⟨_, never, rfl, selfWritten_ucode j _ _ s⟩

end Sys2Proof.Machine

/-! SUPPORT. The DISPATCH class (R270 to R281): a dispatching word seen from any of its rows, and the entry that a
dispatch-memory write stores. -/

namespace Sys2Proof.Machine

open Sys2Proof.Ruled

/-- A dispatching word, by whichever row it is named, reads its M-source once and does what the addressed entry says
(R270 to R280). -/
theorem exec_eq_dispatchDone {i : Instr} {h : Head} {kind : DispKind} {b : DispBits} {s : State}
    (notNop : ∀ b b', i ≠ .nop b b') (fields : i.micro = ⟨h, .disp ⟨kind, b⟩⟩) (dispatches : kind ≠ .write) :
    let m := (readM h.src s).1
    let t := (readM h.src s).2
    exec i s =
      .next (dispatchDone h.popj b (if kind = .posmod then position b.drot t.lc else b.drot) m t) := by
  intro m t
  have word : runMicro ⟨h, .disp ⟨kind, b⟩⟩ s = finishDispatch h.popj kind b m t := by
    cases kind with
    | write => exact absurd rfl dispatches
    | normal | misc1 | posmod => rfl
  rw [exec_eq_runMicro i s notNop, fields, word, finishDispatch_eq_dispatchDone]

/-- The low 17 bits that a dispatch-memory write stores, as a number (R27, R281). -/
theorem entryBits_eq_ofNat (a : Word) : a.extractLsb' 0 17 = BitVec.ofNat 17 a.toNat := by
  rw [BitVec.extractLsb', Nat.shiftRight_zero]

/-! ### The statements -/

/-- Settles O28: each row is its kind (`exec_eq_dispatchDone`), and position modify is of one kind alone. -/
theorem dispatchRows : Obligations.DispatchRows := fun _ _ _ =>
  ⟨exec_eq_dispatchDone (kind := .normal) nofun rfl nofun, exec_eq_dispatchDone (kind := .misc1) nofun rfl nofun,
    exec_eq_dispatchDone (kind := .posmod) nofun rfl nofun⟩

/-- Settles O29: the word is one store into dispatch memory, and the return, if any, is made in the state it
leaves. -/
theorem dispatchWriteRow : Obligations.DispatchWriteRow := by
  intro h b s
  refine ⟨{ s with dmem := s.dmem.set b.daddr.toNat ((readAMem s b.dconst).extractLsb' 0 17) }, ?written, rfl, ?entry,
    fun k other => Store.get_set_ne _ _ other⟩
  case written => exact exec_eq_runMicro (.dispatchWrite h b) s nofun
  case entry => rw [Store.get_set_self, entryBits_eq_ofNat]

end Sys2Proof.Machine

/-! SUPPORT. The BYTE class (R290 to R298): the rotation and the field mask bit by bit, and a BYTE word seen from the
value it puts on the bus. -/

namespace Sys2Proof.Machine

open Sys2Proof.Ruled

/-! ### Rotation and field, bit by bit -/

/-- A rotation to the left by `n` moves every bit up by `n` places, around the end of the word (R298). -/
theorem rotl32_getLsbD (v : Word) (n : BitVec 5) {i : Nat} (inside : i < 32) :
    (rotl32 v n).getLsbD i = v.getLsbD ((i + 32 - n.toNat) % 32) := by
  have small : n.toNat % 32 = n.toNat := Nat.mod_eq_of_lt n.isLt
  rw [rotl32, BitVec.getLsbD_rotateLeft, small]
  by_cases wraps : i < n.toNat
  · have source : (i + 32 - n.toNat) % 32 = 32 - n.toNat + i := by omega
    simp [wraps, source]
  · have source : (i + 32 - n.toNat) % 32 = i - n.toNat := by omega
    simp [wraps, source, inside]

theorem rotl32_zero (v : Word) : rotl32 v 0 = v := by
  apply BitVec.eq_of_getLsbD_eq
  intro i inside
  have same : (i + 32 - 0) % 32 = i := by omega
  exact (rotl32_getLsbD v 0 inside).trans (congrArg v.getLsbD same)

/-- Two rotations by 32 places in all bring every bit back to its place. -/
theorem rotl32_rotl32_of_fullTurn (v : Word) {n k : BitVec 5} (turn : n.toNat + k.toNat = 32) :
    rotl32 (rotl32 v n) k = v := by
  apply BitVec.eq_of_getLsbD_eq
  intro i inside
  have back : ((i + 32 - k.toNat) % 32 + 32 - n.toNat) % 32 = i := by omega
  rw [rotl32_getLsbD _ k inside, rotl32_getLsbD v n (Nat.mod_lt _ (by decide)), back]

/-- The mask holds the bits from its right end to its left end, both included; none when the field wraps (R291). -/
theorem fieldMask_getLsbD (anchor : Bool) (pos widm1 : BitVec 5) {i : Nat} (inside : i < 32) :
    let right : BitVec 5 := if anchor then pos else 0
    (fieldMask anchor pos widm1).getLsbD i = decide (right.toNat ≤ i ∧ i ≤ (right.toNat + widm1.toNat) % 32) := by
  intro right
  have rightMask : (BitVec.allOnes 32 <<< right.toNat).getLsbD i = decide (right.toNat ≤ i) := by
    rw [BitVec.getLsbD_shiftLeft, BitVec.getLsbD_allOnes, Bool.eq_iff_iff]
    simp only [Bool.and_eq_true, Bool.not_eq_true', decide_eq_true_iff, decide_eq_false_iff_not]
    omega
  have leftMask :
      (BitVec.allOnes 32 >>> (31 - (right + widm1).toNat)).getLsbD i = decide (i ≤ (right + widm1).toNat) := by
    rw [BitVec.getLsbD_ushiftRight, BitVec.getLsbD_allOnes, decide_eq_decide]
    omega
  calc (fieldMask anchor pos widm1).getLsbD i
      _ = ((BitVec.allOnes 32 >>> (31 - (right + widm1).toNat)).getLsbD i &&
            (BitVec.allOnes 32 <<< right.toNat).getLsbD i) := BitVec.getLsbD_and
      _ = decide (right.toNat ≤ i ∧ i ≤ (right.toNat + widm1.toNat) % 32) := by
        rw [leftMask, rightMask, BitVec.toNat_add, Bool.and_comm, ← Bool.decide_and]

/-- A merge under a mask takes the bits inside it from the field and all others from A (R290). -/
theorem merge_getLsbD (mask field a : Word) {i : Nat} (inside : i < 32) :
    (merge mask field a).getLsbD i = if mask.getLsbD i then field.getLsbD i else a.getLsbD i := by
  rw [merge, BitVec.getLsbD_or, BitVec.getLsbD_and, BitVec.getLsbD_and, BitVec.getLsbD_not]
  cases mask.getLsbD i <;> simp [inside]

/-- The merge of R290 under the mask of R291, by the bits `x` of the field. -/
theorem fieldFrom_merge_fieldMask (anchor : Bool) (pos widm1 : BitVec 5) {field : Word} (a : Word) {x : Nat → Bool}
    (bits : ∀ i, i < 32 → field.getLsbD i = x i) :
    let right : BitVec 5 := if anchor then pos else 0
    fieldFrom right.toNat ((right.toNat + widm1.toNat) % 32) x a (merge (fieldMask anchor pos widm1) field a) := by
  intro right i inside
  simp only [merge_getLsbD _ _ _ inside, fieldMask_getLsbD anchor pos widm1 inside, bits i inside, decide_eq_true_iff,
    right]

/-! ### A BYTE word and its value -/

theorem bytePosition_eq_bytePos (b : ByteBits) (t : State) : bytePosition b t = bytePos b t := by
  rw [bytePosition, bytePos, positionModify_eq_position]

section Words
variable {i : Instr} {h : Head} {d : Dest} {b : ByteBits} {fn : ByteFn} {s : State}

/-- A BYTE word whose operation is defined writes its value, leaves Q and performs POPJ (R290, R297). -/
theorem exec_of_byteValue {v : Word} (notNop : ∀ b b', i ≠ .nop b b')
    (fields : i.micro = ⟨h, .bus (.byte ⟨fn, b⟩) d⟩) :
    let m := (readM h.src s).1
    let t := (readM h.src s).2
    byteFunction fn (bytePos b t) b.widm1 m (readAMem t b.asrc) = some v →
      exec i s = .next (popjIf h.popj (writeDest d v t)) := by
  intro m t value
  have bus : busValue (.byte ⟨fn, b⟩) m t = some (v, t.q) := by
    simp only [busValue, bytePosition_eq_bytePos, readA, value]
  rw [exec_eq_runMicro i s notNop, fields]
  simp only [runMicro, byteWord, finishBus, busWrites, bus, m, t]

/-- A BYTE word that merges a field into A, by the bits `x` of the field. -/
theorem exec_of_field {anchor : Bool} {field : Word} {x : Nat → Bool} (notNop : ∀ b b', i ≠ .nop b b')
    (fields : i.micro = ⟨h, .bus (.byte ⟨fn, b⟩) d⟩) (bits : ∀ k, k < 32 → field.getLsbD k = x k) :
    let m := (readM h.src s).1
    let t := (readM h.src s).2
    let a := readAMem t b.asrc
    let right : BitVec 5 := if anchor then bytePos b t else 0
    byteFunction fn (bytePos b t) b.widm1 m a = some (merge (fieldMask anchor (bytePos b t) b.widm1) field a) →
      ∃ v, fieldFrom right.toNat ((right.toNat + b.widm1.toNat) % 32) x a v ∧
        exec i s = .next (popjIf h.popj (writeDest d v t)) :=
  fun value => ⟨_, fieldFrom_merge_fieldMask _ _ _ _ bits, exec_of_byteValue notNop fields value⟩

end Words

/-! ### The statements -/

/-- Settles O30: the three operations merge a field into A, the rotated M or M in place, under the mask that begins at
bit 0 or at the position; the undefined one drives no bus. -/
theorem byteRows : Obligations.ByteRows := by
  intro h d b s m t a pos
  refine ⟨?undef, ?ldb, ?sel, ?dpb⟩
  case undef => exact exec_eq_runMicro (.byteUndef h d b) s nofun
  case ldb => exact exec_of_field (anchor := false) nofun rfl (fun _ inside => rotl32_getLsbD m _ inside) rfl
  case sel => exact exec_of_field (anchor := true) nofun rfl (fun _ _ => rfl) rfl
  case dpb => exact exec_of_field (anchor := true) nofun rfl (fun _ inside => rotl32_getLsbD m _ inside) rfl

/-- Settles O31: `n` and `32 - n` are a full turn. -/
theorem rotationProperty : Obligations.RotationProperty := by
  refine fun v => ⟨rotl32_zero v, fun n positive small => rotl32_rotl32_of_fullTurn v ?_⟩
  simp only [BitVec.toNat_ofNat]
  omega

end Sys2Proof.Machine

/-! SUPPORT. The Location Counter (R20, R305, R306, R330, R331): each update of its fields in the masks of the rules,
and the advance. -/

namespace Sys2Proof.Machine

open Sys2Proof.Ruled

/-! ### The fields of the Location Counter by masks -/

/-- A field of a word, moved back to its place, is the word under the mask of the field. -/
theorem extractLsb'_shiftLeft_eq_and (x : Word) (lo len : Nat) :
    (x.extractLsb' lo len).setWidth 32 <<< lo = x &&& (BitVec.allOnes len).setWidth 32 <<< lo := by
  apply BitVec.eq_of_getLsbD_eq
  intro i hi
  by_cases below : i < lo
  · simp [below]
  · have place : lo + (i - lo) = i := by omega
    simp [below, place, hi, Bool.and_comm]

theorem extractLsb'_zero_setWidth_eq_and (x : Word) (len : Nat) :
    (x.extractLsb' 0 len).setWidth 32 = x &&& (BitVec.allOnes len).setWidth 32 := by
  simpa using extractLsb'_shiftLeft_eq_and x 0 len

/-- The flags by their mask, the count below them (R20). -/
theorem lcWithCount_eq_or (lc : Word) (count : BitVec 26) :
    lcWithCount lc count = (lc &&& 0xFC000000) ||| count.setWidth 32 := by
  calc lcWithCount lc count
      _ = ((lc.extractLsb' 26 6 : BitVec 6) ++ count).setWidth 32 := (BitVec.setWidth_eq _).symm
      _ = ((lc.extractLsb' 26 6).setWidth 32 <<< 26) ||| count.setWidth 32 :=
        BitVec.setWidth_append_eq_shiftLeft_setWidth_or
      _ = (lc &&& 0xFC000000) ||| count.setWidth 32 := by
        rw [extractLsb'_shiftLeft_eq_and lc 26 6]
        rfl

theorem lcWithNeedFetch_eq_or (lc : Word) (b : Bool) :
    lcWithNeedFetch lc b = ((flagBit b).setWidth 32 <<< 31) ||| (lc &&& 0x7FFFFFFF) := by
  calc lcWithNeedFetch lc b
      _ = (flagBit b ++ (lc.extractLsb' 0 31 : BitVec 31)).setWidth 32 := (BitVec.setWidth_eq _).symm
      _ = ((flagBit b).setWidth 32 <<< 31) ||| (lc.extractLsb' 0 31).setWidth 32 :=
        BitVec.setWidth_append_eq_shiftLeft_setWidth_or
      _ = ((flagBit b).setWidth 32 <<< 31) ||| (lc &&& 0x7FFFFFFF) := by
        rw [extractLsb'_zero_setWidth_eq_and lc 31]
        rfl

theorem lcWithNeedFetch_false (lc : Word) : lcWithNeedFetch lc false = lc &&& 0x7FFFFFFF := by
  rw [lcWithNeedFetch_eq_or]
  exact BitVec.zero_or

/-- Bits that are set anyway need not be kept by a mask. -/
theorem or_and_of_or_eq_allOnes {fixed mask : Word} (cover : fixed ||| mask = BitVec.allOnes 32) (x : Word) :
    fixed ||| (x &&& mask) = fixed ||| x := by
  apply BitVec.eq_of_getLsbD_eq
  intro i hi
  have covered : (fixed.getLsbD i || mask.getLsbD i) = true := by
    rw [← BitVec.getLsbD_or, cover, BitVec.getLsbD_allOnes, decide_eq_true hi]
  rw [BitVec.getLsbD_or, BitVec.getLsbD_or, BitVec.getLsbD_and]
  cases isFixed : fixed.getLsbD i with
  | true => rfl
  | false =>
    have kept : mask.getLsbD i = true := by simpa [isFixed] using covered
    rw [kept, Bool.and_true]

theorem lcWithNeedFetch_true (lc : Word) : lcWithNeedFetch lc true = lc ||| 0x80000000 := by
  calc lcWithNeedFetch lc true
      _ = 0x80000000 ||| (lc &&& 0x7FFFFFFF) := lcWithNeedFetch_eq_or lc true
      _ = 0x80000000 ||| lc := or_and_of_or_eq_allOnes rfl lc
      _ = lc ||| 0x80000000 := BitVec.or_comm _ _

/-! ### Writes of the Location Counter -/

/-- The write of the LC destination by masks (R305). -/
theorem lcLoad_eq_lcWritten (lc out : Word) : lcLoad lc out = lcWritten lc out := by
  have word : (out.extractLsb' 0 26).setWidth 32 = out &&& 0x03FFFFFF#32 :=
    extractLsb'_zero_setWidth_eq_and out 26
  have count : (if lcByteMode lc then out.extractLsb' 0 26 else out.extractLsb' 0 26 &&& ~~~1#26).setWidth 32 =
      out &&& (if lc.getLsbD 29 then 0x03FFFFFF#32 else 0x03FFFFFE#32) := by
    rw [lcByteMode]
    cases lc.getLsbD 29 with
    | true => exact word
    | false =>
      rw [if_neg Bool.false_ne_true, if_neg Bool.false_ne_true, BitVec.setWidth_and, word, BitVec.and_assoc]
      rfl
  have flags : (0x80000000 : Word) ||| (lc &&& 0x7C000000) = 0x80000000 ||| (lc &&& 0xFC000000) := by
    rw [← or_and_of_or_eq_allOnes (mask := 0x7FFFFFFF) rfl (lc &&& 0xFC000000), BitVec.and_assoc]
    rfl
  calc lcLoad lc out
      _ = (lc &&& 0xFC000000) ||| (out &&& (if lc.getLsbD 29 then 0x03FFFFFF#32 else 0x03FFFFFE#32)) |||
            0x80000000 := by
        rw [lcLoad, lcWithNeedFetch_true, lcWithCount_eq_or, count]
      _ = lcWritten lc out := by
        rw [lcWritten, BitVec.or_comm _ (0x80000000 : Word), BitVec.or_comm _ (0x80000000 : Word),
          ← BitVec.or_assoc, ← BitVec.or_assoc, flags]

/-- The write of the interrupt-control destination by masks (R306). -/
theorem lcLoadFlags_eq_lcFlagged (lc out : Word) : lcLoadFlags lc out = lcFlagged lc out := by
  have high : (lc.extractLsb' 30 2).setWidth 32 <<< 30 = lc &&& 0xC0000000 := extractLsb'_shiftLeft_eq_and lc 30 2
  have flags : (out.extractLsb' 26 4).setWidth 32 <<< 26 = out &&& 0x3C000000 := extractLsb'_shiftLeft_eq_and out 26 4
  have count : (lc.extractLsb' 0 26).setWidth 32 = lc &&& 0x03FFFFFF := extractLsb'_zero_setWidth_eq_and lc 26
  calc lcLoadFlags lc out
      _ = ((lc.extractLsb' 30 2 : BitVec 2) ++ (out.extractLsb' 26 4 : BitVec 4) ++
            (lc.extractLsb' 0 26 : BitVec 26)).setWidth 32 := (BitVec.setWidth_eq _).symm
      _ = ((lc.extractLsb' 30 2).setWidth 32 <<< 30) ||| ((out.extractLsb' 26 4).setWidth 32 <<< 26) |||
            (lc.extractLsb' 0 26).setWidth 32 := by
        rw [BitVec.setWidth_append_eq_shiftLeft_setWidth_or, BitVec.setWidth_append_eq_shiftLeft_setWidth_or,
          BitVec.shiftLeft_or_distrib, ← BitVec.shiftLeft_add]
      _ = ((lc &&& 0xC0000000) ||| (lc &&& 0x03FFFFFF)) ||| (out &&& 0x3C000000) := by
        rw [high, flags, count, BitVec.or_assoc, BitVec.or_comm (out &&& _), BitVec.or_assoc]
      _ = lcFlagged lc out := by
        rw [← BitVec.and_or_distrib_left]
        rfl

/-! ### The advance -/

theorem lcStep_eq_lcAdded (lc : Word) : lcStep lc = lcAdded lc := by
  have count : (lcCount lc + (if lcByteMode lc then 1 else 2)).setWidth 32 =
      BitVec.ofNat 32 ((lc.toNat + (if lc.getLsbD 29 then 1 else 2)) % 2 ^ 26) := by
    apply BitVec.eq_of_toNat_eq
    rw [lcByteMode, lcCount]
    cases lc.getLsbD 29 <;> simp
  rw [lcStep, lcWithCount_eq_or, count, lcAdded]

theorem lcAtWordStart_eq_needFetchNext (lc : Word) : lcAtWordStart lc = needFetchNext lc := by
  have low : ∀ i, lc.getLsbD i = decide (lc.toNat / 2 ^ i % 2 = 1) := fun i => Nat.testBit_eq_decide_div_mod_eq
  rw [lcAtWordStart, needFetchNext, lcByteMode, low 0, low 1, Bool.eq_iff_iff]
  cases lc.getLsbD 29 with
  | true =>
    simp only [Bool.true_and, Bool.and_eq_true, Bool.not_eq_true', decide_eq_false_iff_not, if_true, beq_iff_eq]
    omega
  | false => simp

/-- The word address of a count (R330). -/
theorem lcCount_wordAddress (lc : Word) :
    ((lcCount lc).extractLsb' 2 24 : BitVec 24).setWidth 32 = BitVec.ofNat 32 (lc.toNat % 2 ^ 26 / 4) := by
  apply BitVec.eq_of_toNat_eq
  simp only [lcCount, BitVec.toNat_setWidth, BitVec.extractLsb'_toNat, Nat.shiftRight_eq_div_pow, BitVec.toNat_ofNat]
  omega

/-- A started read leaves the Location Counter. -/
theorem startRead_lc (s : State) : (startRead s).lc = s.lc := by
  cases access : (translateVa s (cycleAddress s)).accessOk with
  | false =>
    obtain ⟨c, read⟩ := startRead_of_denied access
    rw [read]
    rfl
  | true =>
    obtain ⟨c, read⟩ := startRead_of_access access
    rw [read, physRead_frame]
    rfl

/-- Settles O26: the two branches of `advanceLc_cases`, with the sum by `lcStep_eq_lcAdded` and the test of
NEED-FETCH by `lcAtWordStart_eq_needFetchNext`. -/
theorem lcAdvance : Obligations.LcAdvance := by
  intro v s lc
  rcases advanceLc_cases v s with ⟨fetches, t, read, result⟩ | ⟨noFetch, result⟩
  · refine ⟨fun noFetch => absurd (noFetch.symm.trans fetches) Bool.false_ne_true, ?_⟩
    intro _ u
    rw [lcWithNeedFetch_false, lcStep_eq_lcAdded, lcCount_wordAddress] at read
    have start : t = u := read
    rw [lcStep_eq_lcAdded, lcAtWordStart_eq_needFetchNext, start, lcWithNeedFetch_true] at result
    refine ⟨?_, startRead_lc _⟩
    rw [result]
    split <;> rfl
  · refine ⟨fun _ => ?_, fun fetches => absurd (noFetch.symm.trans fetches) Bool.false_ne_true⟩
    rw [result, lcStep_eq_lcAdded, lcAtWordStart_eq_needFetchNext, lcWithNeedFetch_true]

end Sys2Proof.Machine

/-! SUPPORT. The destinations (R300 to R323): a word of the ALU or BYTE class seen from its destination row, the
M-memory capture, and what a store to ordinary memory leaves unchanged. -/

namespace Sys2Proof.Machine

open Sys2Proof.Ruled

/-! ### A word seen from its destination row -/

section Words
variable {i : Instr} {h : Head} {op : BusOp} {d : Dest} {s : State}

/-- A word that drives the output bus reads its M-source, makes its writes and performs POPJ (R144, R180, R290). -/
theorem exec_eq_busWrites (notNop : ∀ b b', i ≠ .nop b b') (fields : i.micro = ⟨h, .bus op d⟩) :
    exec i s = .next (popjIf h.popj (busWrites op d (readM h.src s).1 (readM h.src s).2)) := by
  rw [exec_eq_runMicro i s notNop, runMicro_eq_withSource, fields]
  rfl

/-- Such a word with the bus value `out` writes Q and then its destination. -/
theorem exec_of_busValue {out q : Word} (notNop : ∀ b b', i ≠ .nop b b') (fields : i.micro = ⟨h, .bus op d⟩)
    (value : busValue op (readM h.src s).1 (readM h.src s).2 = some (out, q)) :
    exec i s = .next (popjIf h.popj (writeDest d out { (readM h.src s).2 with q := q })) := by
  rw [exec_eq_busWrites notNop fields, busWrites, value]

/-- Such a word without POPJ leaves the state of its destination write. -/
theorem exec_of_write {g : Ignored} {src : MSrc} {out q : Word} {u : State} (notNop : ∀ b b', i ≠ .nop b b')
    (fields : i.micro = ⟨⟨g, false, src⟩, .bus op d⟩)
    (value : busValue op (readM src s).1 (readM src s).2 = some (out, q))
    (write : writeDest d out { (readM src s).2 with q := q } = u) : exec i s = .next u := by
  rw [← write]
  exact exec_of_busValue notNop fields value

/-- A word that drives the output bus, by whichever row it is named, does what its destination does with the bus
value. -/
theorem exec_eq_destDone {f : Word → State → State} (notNop : ∀ b b', i ≠ .nop b b')
    (fields : i.micro = ⟨h, .bus op d⟩) (writes : ∀ v t, writeDest d v t = f v t) :
    exec i s = .next (destDone h op f s) := by
  obtain rfl : writeDest d = f := funext₂ writes
  rw [exec_eq_busWrites notNop fields, destDone, busWrites]
  cases busValue op (readM h.src s).1 (readM h.src s).2 <;> rfl

end Words

/-- The low bits of the bus that a register takes, as a number. -/
theorem extractLsb'_zero_eq_ofNat (v : Word) (len : Nat) : v.extractLsb' 0 len = BitVec.ofNat len v.toNat := by
  rw [BitVec.extractLsb', Nat.shiftRight_zero]

/-- Settles O36: each row is its destination (`exec_eq_destDone`); the two writes of the Location Counter are spelled
by masks in the rules, and the narrow registers by numbers. -/
theorem registerDestinations : Obligations.RegisterDestinations := by
  intro ma h op s
  simp only [← extractLsb'_zero_eq_ofNat, ← lcLoad_eq_lcWritten, ← lcLoadFlags_eq_lcFlagged]
  refine ⟨fun b24 addr => ?directA, ?_⟩
  case directA => exact exec_eq_destDone nofun rfl fun _ _ => rfl
  and_intros
  all_goals exact exec_eq_destDone nofun rfl fun _ _ => rfl

/-- Settles O37: the cycle or the map write comes between the register and the capture. -/
theorem memoryDestinations : Obligations.MemoryDestinations := by
  intro ma h op s
  and_intros
  all_goals exact exec_eq_destDone nofun rfl fun _ _ => rfl

/-- Settles O38: no undefined code and no reserved one writes more than the capture. -/
theorem undefinedDestinations : Obligations.UndefinedDestinations := by
  intro ma h op s t
  refine ⟨?_, ?_, ?_, ?_, ?_, ?_, ?_, ?_, ?_, ?_, ?_, ?_, ?_, fun fd => ?reserved⟩
  all_goals exact exec_eq_destDone nofun rfl fun _ _ => rfl

/-! ### The M-memory capture -/

theorem readM_mMem (src : MSrc) (s : State) : (readM src s).2.mMem = s.mMem := by rw [readM_frame src s]

theorem popjIf_mMem (popj : Bool) (s : State) : (popjIf popj s).mMem = s.mMem := by rw [popjIf_frame popj s]

theorem writeMap_mMem (s : State) : (writeMap s).mMem = s.mMem := by rw [writeMap_eq]

/-- No functional destination writes M-memory: the capture alone does (R302). -/
theorem functionalDest_mMem (f : FDest) (out : Word) (s : State) : (functionalDest f out s).mMem = s.mMem := by
  have started : ∀ {u t : State}, cycleFrame u t → t.mMem = u.mMem := fun frame => by rw [frame]
  cases f
  case vmaStartRead => exact started (u := { s with vma := out }) (startRead_frame _)
  case vmaStartWrite => exact started (u := { s with vma := out }) (startWrite_frame _)
  case mdStartRead => exact started (u := { s with md := out }) (startRead_frame _)
  case mdStartWrite => exact started (u := { s with md := out }) (startWrite_frame _)
  case vmaWriteMap => exact writeMap_mMem _
  case mdWriteMap => exact writeMap_mMem _
  all_goals rfl

theorem readMMem_congr {s t : State} (same : t.mMem = s.mMem) (i : BitVec 5) : readMMem t i = readMMem s i :=
  congrArg (Store.get · i.toNat) same

theorem readMMem_writeDest_ne {ma k : BitVec 5} (other : k ≠ ma) (f : FDest) (out : Word) (s : State) :
    readMMem (writeDest (.fn f ma) out s) k = readMMem s k :=
  (readMMem_writeM_ne _ _ other).trans (readMMem_congr (functionalDest_mMem f out s) k)

theorem readAMem_congr {s t : State} (same : t.aMem = s.aMem) (i : BitVec 10) : readAMem t i = readAMem s i :=
  congrArg (Store.get · i.toNat) same

/-- Settles O39: the capture is the last write before POPJ, and only it writes M-memory. -/
theorem mCaptureIsSeenInBothMemories : Obligations.MCaptureIsSeenInBothMemories := by
  intro i op s out q notNop value
  have before : ∀ k, readMMem { (readM i.micro.head.src s).2 with q := q } k = readMMem s k :=
    readMMem_congr (readM_mMem i.micro.head.src s)
  have after : ∀ (u : State) k, readMMem (popjIf i.micro.head.popj u) k = readMMem u k := fun u =>
    readMMem_congr (popjIf_mMem _ u)
  have run : ∀ d, i.micro.body = .bus op d → exec i s = .next (popjIf i.micro.head.popj
      (writeDest d out { (readM i.micro.head.src s).2 with q := q })) := fun d body =>
    exec_of_busValue notNop (congrArg (Micro.mk i.micro.head) body) value
  refine ⟨fun f ma body => ?functional, fun b24 addr body => ?direct⟩
  case functional =>
    refine ⟨_, run _ body, ?self, fun k other => ?others, fun noPopj => ?aMem⟩
    case self => exact (after _ ma).trans (readMMem_writeM_self ma out _)
    case others => rw [hostReadM, after, readMMem_writeDest_ne other, before, hostReadM]
    case aMem =>
      rw [noPopj]
      exact readAMem_writeM_alias ma out _
  case direct => exact ⟨_, run _ body, fun k => (after _ k).trans (before k)⟩

/-- Settles O40: with a plain M-source and no POPJ the word is the Q control and one write of A-memory. -/
theorem directAWriteLeavesM : Obligations.DirectAWriteLeavesM := by
  intro b24 addr g ms op s out q value
  have run : exec (.destA b24 addr ⟨g, false, .m ms⟩ op) s = .next (writeAMem addr out { s with q := q }) :=
    exec_of_write nofun rfl value rfl
  exact ⟨_, run, rfl, readAMem_writeAMem_self _ _ _, fun k other => readAMem_writeAMem_ne _ _ other⟩

/-! ### Stores to ordinary memory -/

/-- `t` is `s` after a write cycle of ordinary memory with its word at `k`, allowed or not (R73, R81, R82). -/
structure StoresAt (k : Nat) (allowed : Bool) (s t : State) : Prop where
  frame : t = { s with
    mem := t.mem, pages := t.pages, cache := t.cache, accessFault := t.accessFault, writeFault := t.writeFault
    pageFault := t.pageFault, opc := t.opc }
  outside : ∀ x, x < k ∨ k + 4 ≤ x → readByte t.mem x = readByte s.mem x
  denied : allowed = false → t.mem = s.mem ∧ t.pages = s.pages
  performed : allowed = true → t.opc = s.opc

theorem StoresAt.of_fault (k : Nat) (f : MemFault) (p : Ppn) (c : Cache) (s : State) :
    StoresAt k false s (raiseFault f p (cycleBegun c s)) := by
  cases f <;> exact ⟨rfl, fun _ _ => rfl, fun _ => ⟨rfl, rfl⟩, nofun⟩

theorem startWrite_storesAt {s : State} {t : Translation} (walk : translateVa s (cycleAddress s) = t)
    (ordinary : ordinaryPage t.ppn = true) :
    StoresAt (cellKey t.ppn t.off) (t.accessOk && t.writeOk) s (startWrite s) := by
  subst walk
  cases access : (translateVa s (cycleAddress s)).accessOk with
  | false =>
    obtain ⟨c, write⟩ := startWrite_of_denied access
    rw [write]
    exact .of_fault _ _ _ c s
  | true =>
    cases writable : (translateVa s (cycleAddress s)).writeOk with
    | false =>
      obtain ⟨c, write⟩ := startWrite_of_readOnly access writable
      rw [write]
      exact .of_fault _ _ _ c s
    | true =>
      cases backed : backedPage s (translateVa s (cycleAddress s)).ppn with
      | true =>
        obtain ⟨c, write⟩ := startWrite_of_backed access writable backed
        rw [write]
        exact ⟨rfl, fun x => writeWord_byte_outside _ _ _ x, nofun, fun _ => rfl⟩
      | false =>
        obtain ⟨c, write⟩ := startWrite_of_access access writable
        rw [write, physWrite_of_absent (s := cycleBegun c s) ordinary backed]
        exact ⟨rfl, fun _ _ => rfl, nofun, fun _ => rfl⟩

/-- A started write leaves VMA, whatever the page. -/
theorem startWrite_vma (s : State) : (startWrite s).vma = s.vma := by
  obtain ⟨c, begun⟩ := noteWalk_clearFaults (cycleAddress s) s
  rcases memWrite_cases (cycleAddress s) s.md s with ⟨_, write⟩ | ⟨_, _, write⟩ | ⟨_, _, write⟩
  · rw [startWrite, write, begun]
    rfl
  · rw [startWrite, write, begun]
    rfl
  · rw [startWrite, write, begun, physWrite_frame]
    rfl

theorem startWrite_md (s : State) : (startWrite s).md = s.md := by rw [startWrite_frame s]

theorem readAMem_writeM_ne {i : BitVec 5} {j : BitVec 10} (v : Word) (s : State) (other : j ≠ i.setWidth 10) :
    readAMem (writeM i v s) j = readAMem s j := by
  have index : j.toNat ≠ i.toNat := fun e => other (BitVec.eq_of_toNat_eq (by simp; omega))
  simp [readAMem, Store.get_set_ne _ _ index]

section Capture
variable {k : Nat} {allowed : Bool} {s t : State}

theorem StoresAt.mMem (stores : StoresAt k allowed s t) : t.mMem = s.mMem := by rw [stores.frame]

theorem StoresAt.aMem (stores : StoresAt k allowed s t) : t.aMem = s.aMem := by rw [stores.frame]

/-- What a storing destination changes: Q, VMA or MD before the cycle, M-memory and A-memory after it. -/
theorem StoresAt.captured_frame {r : State} {q vma md : Word}
    (stores : StoresAt k allowed { r with q := q, vma := vma, md := md } s) (ma : BitVec 5) (out : Word) :
    let t := writeM ma out s
    t = { r with
      q := q, vma := t.vma, md := t.md, mMem := t.mMem, aMem := t.aMem, mem := t.mem, pages := t.pages
      cache := t.cache, accessFault := t.accessFault, writeFault := t.writeFault, pageFault := t.pageFault
      opc := t.opc } := by
  intro t
  have frame : t = writeM ma out s := rfl
  rw [stores.frame] at frame
  rw [frame]
  rfl

end Capture

/-- Settles O52: the word is a register write, the write cycle (`startWrite_storesAt`) and the capture. -/
theorem storeFrame : Obligations.StoreFrame := by
  intro ma g src op s out q r value frame
  have stored : ∀ vma md : Word, frame (vma.extractLsb' 0 24)
      (writeM ma out (startWrite { r with q := q, vma := vma, md := md })) := by
    intro vma md ordinary k allowed
    have walk : translateVa { r with q := q, vma := vma, md := md } (vma.extractLsb' 0 24) =
        translateVa r (vma.extractLsb' 0 24) := translateVa_congr rfl rfl _
    have stores : StoresAt k allowed { r with q := q, vma := vma, md := md } _ := startWrite_storesAt walk ordinary
    exact ⟨stores.captured_frame ma out, stores.outside, stores.denied, stores.performed,
      fun x other => (readMMem_writeM_ne _ _ other).trans (readMMem_congr stores.mMem x),
      fun x other => (readAMem_writeM_ne _ _ other).trans (readAMem_congr stores.aMem x)⟩
  have byVma : exec (.destVmaStartWrite ma ⟨g, false, src⟩ op) s =
      .next (writeM ma out (startWrite { r with q := q, vma := out })) :=
    exec_of_write nofun rfl value rfl
  have byMd : exec (.destMdStartWrite ma ⟨g, false, src⟩ op) s =
      .next (writeM ma out (startWrite { r with q := q, md := out })) :=
    exec_of_write nofun rfl value rfl
  exact ⟨⟨_, byVma, startWrite_vma _, startWrite_md _, stored out r.md⟩,
    ⟨_, byMd, startWrite_md _, startWrite_vma _, stored r.vma out⟩⟩

end Sys2Proof.Machine

/-! SUPPORT. Map writes (R324): the two entries, the page that comes to exist, and the cache. -/

namespace Sys2Proof.Machine

/-! ### The indexes of a map write -/

theorem l1Index_mapAddress (s : State) : l1Index (mapAddress s) = s.md.toNat % 2 ^ 24 / 2 ^ 13 := by
  rw [l1Index_eq_div, mapAddress, BitVec.extractLsb'_toNat, Nat.shiftRight_zero]

theorem l2Index_mapAddress (bucket : BitVec 5) (s : State) :
    l2Index bucket (mapAddress s) = bucket.toNat * 32 + s.md.toNat / 2 ^ 8 % 32 := by
  rw [l2Index_eq_add, mapAddress, BitVec.extractLsb'_toNat, Nat.shiftRight_zero]
  omega

/-! ### The two halves -/

theorem writeLevel1_of_disabled {s : State} (h : s.vma.getLsbD 26 = false) : writeLevel1 s = s :=
  if_neg (ne_true_of_eq_false h)

theorem writeLevel2_of_disabled {s : State} (h : s.vma.getLsbD 25 = false) : writeLevel2 s = s :=
  if_neg (ne_true_of_eq_false h)

theorem writeLevel1_cache {s : State} (h : s.vma.getLsbD 26 = true) : (writeLevel1 s).cache.valid = false := by
  rw [writeLevel1, if_pos h]
  rfl

theorem writeLevel2_cache {s : State} (h : s.vma.getLsbD 25 = true) : (writeLevel2 s).cache.valid = false := by
  rw [writeLevel2, if_pos h, ensurePage_eq]
  rfl

theorem writeLevel2_pages {s : State} (h : s.vma.getLsbD 25 = true) :
    (writeLevel2 s).pages =
      if s.vma.toNat % 2 ^ 14 < 8192 then insertPage s.pages (s.vma.toNat % 2 ^ 14) else s.pages := by
  have page : (s.vma.extractLsb' 0 14).toNat = s.vma.toNat % 2 ^ 14 := by
    rw [BitVec.extractLsb'_toNat, Nat.shiftRight_zero]
  rw [writeLevel2, if_pos h, ensurePage_pages, page]
  rfl

theorem writeLevel1_l1_ne {s : State} {k : Nat} (other : k ≠ l1Index (mapAddress s)) :
    (writeLevel1 s).l1.get k = s.l1.get k := by
  unfold writeLevel1
  split
  · exact Store.get_set_ne _ _ other
  · rfl

/-! ### The whole write -/

theorem writeLevel1_vma (s : State) : (writeLevel1 s).vma = s.vma := by rw [writeLevel1_frame]

/-- The level-2 half uses the bucket the level-1 half has left. -/
theorem writeMap_l2 {s : State} (h : s.vma.getLsbD 25 = true) :
    (writeMap s).l2 = s.l2.set (l2Index (writtenBucket s) (mapAddress s)) (s.vma.extractLsb' 0 24) := by
  have address : mapAddress (writeLevel1 s) = mapAddress s := by rw [writeLevel1_frame]; rfl
  have l2 : (writeLevel1 s).l2 = s.l2 := by rw [writeLevel1_frame]
  have vma := writeLevel1_vma s
  have entry := writeLevel1_entry s
  rw [writeMap, writeLevel2_l2 (vma ▸ h), address, entry, vma, l2]

theorem writeMap_of_level2_disabled {s : State} (h : s.vma.getLsbD 25 = false) : writeMap s = writeLevel1 s :=
  writeLevel2_of_disabled (writeLevel1_vma s ▸ h)

theorem writeMap_pages {s : State} (h : s.vma.getLsbD 25 = true) :
    (writeMap s).pages =
      if s.vma.toNat % 2 ^ 14 < 8192 then insertPage s.pages (s.vma.toNat % 2 ^ 14) else s.pages := by
  have vma := writeLevel1_vma s
  have pages : (writeLevel1 s).pages = s.pages := by rw [writeLevel1_frame]
  rw [writeMap, writeLevel2_pages (vma ▸ h), vma, pages]

theorem writeMap_cache {s : State} (h : (s.vma.getLsbD 26 || s.vma.getLsbD 25) = true) :
    (writeMap s).cache.valid = false := by
  cases level2 : s.vma.getLsbD 25 with
  | true => exact writeLevel2_cache (writeLevel1_vma s ▸ level2)
  | false =>
    have level1 : s.vma.getLsbD 26 = true := by rwa [level2, Bool.or_false] at h
    rw [writeMap_of_level2_disabled level2, writeLevel1_cache level1]

/-- Settles O55: the rules of the two halves, with their indexes as quotients. -/
theorem mapWrite : Obligations.MapWrite := by
  intro s i1 u bucket i2
  have index1 : l1Index (mapAddress s) = i1 := l1Index_mapAddress s
  have written : writtenBucket s = bucket := by rw [writtenBucket, index1]
  have index2 : l2Index (writtenBucket s) (mapAddress s) = i2 := by rw [l2Index_mapAddress, written]
  refine ⟨writeMap_eq s, ?entry1, fun k other => ?others1,
    fun level2 => ⟨?entry2, fun k other => ?others2, ?pages⟩,
    fun noLevel2 => ?noLevel2, fun noLevel1 noLevel2 => ?nothing, writeMap_cache⟩
  case entry1 => rw [← index1, writeMap_l1_entry, written]
  case others1 =>
    rw [← index1] at other
    exact (congrArg (Store.get · k) (writeLevel2_l1 (writeLevel1 s))).trans (writeLevel1_l1_ne other)
  case entry2 => rw [← index2, writeMap_l2_entry level2]
  case others2 =>
    rw [← index2] at other
    exact (congrArg (Store.get · k) (writeMap_l2 level2)).trans (Store.get_set_ne _ _ other)
  case pages => exact writeMap_pages level2
  case noLevel2 =>
    have level1Only : u = writeLevel1 s := writeMap_of_level2_disabled noLevel2
    rw [level1Only, writeLevel1_frame]
    exact ⟨rfl, rfl⟩
  case nothing => exact (writeMap_of_level2_disabled noLevel2).trans (writeLevel1_of_disabled noLevel1)

end Sys2Proof.Machine

/-! SUPPORT. No word stops a step (R120, R350, R357, R358): every instruction answers a next state, a word of the ALU or
BYTE class leaves the control state, and the run flag goes by the halt encoding alone (R252). -/

namespace Sys2Proof.Machine

/-- Settles O9: every instruction answers by `exec_eq_next`, and a step is an instruction or nothing. -/
theorem everyStepGoesOn : Obligations.EveryStepGoesOn := by
  have answers : ∀ (i : Instr) (s : State), ∃ t, exec i s = .next t := fun i s =>
    have ⟨t, runs, _⟩ := exec_eq_next i s
    ⟨t, runs⟩
  have halted : ∀ s : State, s.run = false → step s = .next s := fun s stopped => if_neg (ne_true_of_eq_false stopped)
  refine ⟨fun s => ?_, answers, halted⟩
  cases run : s.run with
  | false => exact ⟨s, halted s run⟩
  | true => exact step_of_run run ▸ answers _ _

/-! ### Control state -/

/-- `t` has the micro-PC, the pipeline, the stall flag, the run flag and the cycle count of `s`. -/
structure SameControl (s t : State) : Prop where
  uPc : t.uPc = s.uPc := by rfl
  noExecNext : t.noExecNext = s.noExecNext := by rfl
  p0 : t.p0 = s.p0 := by rfl
  p1 : t.p1 = s.p1 := by rfl
  p0Pc : t.p0Pc = s.p0Pc := by rfl
  p1Pc : t.p1Pc = s.p1Pc := by rfl
  run : t.run = s.run := by rfl
  cycles : t.cycles = s.cycles := by rfl

theorem SameControl.trans {s t u : State} (h : SameControl s t) (h' : SameControl t u) : SameControl s u where
  uPc := h'.uPc.trans h.uPc
  noExecNext := h'.noExecNext.trans h.noExecNext
  p0 := h'.p0.trans h.p0
  p1 := h'.p1.trans h.p1
  p0Pc := h'.p0Pc.trans h.p0Pc
  p1Pc := h'.p1Pc.trans h.p1Pc
  run := h'.run.trans h.run
  cycles := h'.cycles.trans h.cycles

theorem SameControl.of_sourceFrame {s t : State} (h : sourceFrame s t) : SameControl s t := by
  rw [h]
  exact {}

/-- The writes of an ALU or BYTE word, a faulting memory cycle among them, leave the control state (R358). -/
theorem busWrites_control (op : BusOp) (d : Dest) (m : Word) (s : State) : SameControl s (busWrites op d m s) := by
  obtain ⟨q, frame, _⟩ := busWrites_frame op d m s
  rw [frame]
  exact {}

/-- Without `POPJ` such a word is its M-source read and its writes. -/
theorem runMicro_bus {w : Micro} {op : BusOp} {d : Dest} (body : w.body = .bus op d) (noPopj : w.head.popj = false)
    (s : State) : runMicro w s = busWrites op d (readM w.head.src s).1 (readM w.head.src s).2 := by
  rw [runMicro_eq_afterRead, body, noPopj]
  rfl

/-- Settles O42: the M-source read and the writes leave the control state. -/
theorem busWordsDoNotTransfer : Obligations.BusWordsDoNotTransfer := by
  intro i op d s t body noPopj h
  have same : SameControl s t := by
    rcases exec_next_cases h with rfl | rfl
    · exact {}
    · rw [runMicro_bus body noPopj]
      exact (SameControl.of_sourceFrame (readM_frame i.micro.head.src s)).trans (busWrites_control _ _ _ _)
  exact ⟨same.uPc, same.noExecNext, same.p0, same.p1, same.p0Pc, same.p1Pc, same.run, same.cycles⟩

/-! ### The run flag -/

/-- The word is a JUMP with the halt encoding (R252). -/
def haltsEngine (body : Body) : Bool :=
  match body with
  | .jump op => op.misc == .halt
  | _ => false

theorem haltsEngine_iff (body : Body) :
    haltsEngine body = true ↔ ∃ op : JumpOp, body = .jump op ∧ op.misc = .halt := by
  cases body <;> simp [haltsEngine]

theorem popjIf_run (popj : Bool) (s : State) : (popjIf popj s).run = s.run := by rw [popjIf_frame popj s]

theorem finishJump_run (popj : Bool) (op : JumpOp) (m : Word) (s : State) :
    (finishJump popj op m s).run = if op.misc = .halt then false else s.run := by rw [finishJump_frame popj op m s]

theorem finishDispatch_run (popj : Bool) (kind : DispKind) (b : DispBits) (m : Word) (s : State) :
    (finishDispatch popj kind b m s).run = s.run := by rw [finishDispatch_frame popj kind b m s]

/-- What follows the M-source read writes the run flag in a halting JUMP only. -/
theorem afterRead_run (popj : Bool) (body : Body) (m : Word) (s : State) :
    (afterRead popj body m s).run = if haltsEngine body then false else s.run := by
  cases body with
  | bus op d => exact (popjIf_run popj _).trans (busWrites_control op d m s).run
  | jump op =>
    simp only [haltsEngine, beq_iff_eq]
    exact finishJump_run popj op m s
  | disp op =>
    obtain ⟨kind, b⟩ := op
    cases kind with
    | write => exact popjIf_run popj _
    | normal | misc1 | posmod => exact finishDispatch_run popj _ b m s

theorem runMicro_run (w : Micro) (s : State) :
    (runMicro w s).run = if haltsEngine w.body then false else s.run := by
  rw [runMicro_eq_afterRead]
  split
  · exact afterRead_run _ _ _ s
  · rw [afterRead_run, (SameControl.of_sourceFrame (readM_frame w.head.src s)).run]

/-- Settles O43, by `runMicro_run`. -/
theorem onlyAHaltStopsTheEngine : Obligations.OnlyAHaltStopsTheEngine := by
  intro i s t notNop h
  have next : runMicro i.micro s = t := Host.Outcome.next.inj ((exec_eq_runMicro i s notNop).symm.trans h)
  have run := next ▸ runMicro_run i.micro s
  refine ⟨fun halts => ?_, fun noHalt => ?_⟩
  · rw [run, if_pos ((haltsEngine_iff _).mpr halts)]
  · have goesOn : ¬ haltsEngine i.micro.body = true := fun halts =>
      have ⟨op, body, misc⟩ := (haltsEngine_iff _).mp halts
      noHalt op body misc
    rw [run, if_neg goesOn]

end Sys2Proof.Machine

/-! SUPPORT. The interrupt controller (R360 to R366): its masks bit by bit, the four operations of a device, the unibus
page, and an assertion in the poll of a cycle (R367). -/

namespace Sys2Proof.Machine

open Sys2Proof.Ruled

/-! ### The masks, bit by bit -/

/-- A test of the ISR by a mask of one bit. -/
theorem and_twoPow_bne_zero (v : BitVec 16) (k : Nat) (hk : k < 16 := by decide) :
    (v &&& BitVec.twoPow 16 k != 0) = v.getLsbD k := by
  have nonzero : BitVec.twoPow 16 k ≠ 0#16 := fun e => by
    simpa [hk] using congrArg (BitVec.getLsbD · k) e
  rw [BitVec.and_twoPow]
  cases v.getLsbD k <;> simp [nonzero]

theorem unibusEnabled_eq (v : BitVec 16) : (v &&& isrUnibusEnable != 0) = v.getLsbD 10 := and_twoPow_bne_zero v 10

theorem unibusPending_eq (v : BitVec 16) : (v &&& isrUnibusPending != 0) = v.getLsbD 15 := and_twoPow_bne_zero v 15

theorem xbusPending_eq (v : BitVec 16) : (v &&& isrXbusPending != 0) = v.getLsbD 14 := and_twoPow_bne_zero v 14

/-- The combined flag is the disjunction of the two pending bits (R361). -/
theorem isrPending_eq (v : BitVec 16) : isrPending v = (v.getLsbD 15 || v.getLsbD 14) := by
  have pendingBits : v &&& isrPendingMask = (v &&& isrUnibusPending) ||| (v &&& isrXbusPending) :=
    BitVec.and_or_distrib_left (x := v) (y := isrUnibusPending) (z := isrXbusPending)
  have either : ∀ x y : BitVec 16, (x ||| y != 0) = (x != 0 || y != 0) := fun x y => by
    rw [Bool.eq_iff_iff]
    simp [BitVec.or_eq_zero_iff, ← imp_iff_not_or]
  rw [isrPending, pendingBits, either, unibusPending_eq, xbusPending_eq]

theorem isrUnibusPending_bit : ∀ k < 16, isrUnibusPending.getLsbD k = decide (k = 15) := by decide

theorem isrXbusPending_bit : ∀ k < 16, isrXbusPending.getLsbD k = decide (k = 14) := by decide

theorem isrVectorMask_bit : ∀ k < 16, isrVectorMask.getLsbD k = decide (2 ≤ k ∧ k ≤ 9) := by decide

theorem isrWriteMask20_bit : ∀ k < 16, isrWriteMask20.getLsbD k = decide (k = 0 ∨ (10 ≤ k ∧ k ≤ 13)) := by decide

theorem isrWriteMask21_bit : ∀ k < 16, isrWriteMask21.getLsbD k = decide (k = 15 ∨ (2 ≤ k ∧ k ≤ 9)) := by decide

/-! ### The operations of a device -/

theorem setIsr_eq (v : BitVec 16) (s : State) :
    setIsr v s = { s with isr := v, interruptPending := v.getLsbD 15 || v.getLsbD 14 } := by
  rw [setIsr, isrPending_eq]

theorem assertUnibus_of_disabled {s : State} (h : s.isr.getLsbD 10 = false) (vec : BitVec 16) :
    assertUnibus vec s = s := by
  rw [assertUnibus, unibusEnabled_eq, h, if_neg Bool.false_ne_true]

theorem assertUnibus_of_enabled {s : State} (h : s.isr.getLsbD 10 = true) (vec : BitVec 16) :
    assertUnibus vec s =
      setIsr ((s.isr &&& ~~~isrVectorMask) ||| isrUnibusPending ||| (vec &&& isrVectorMask)) s := by
  rw [assertUnibus, unibusEnabled_eq, h, if_pos rfl]

theorem deassertUnibus_of_idle {s : State} (h : s.isr.getLsbD 15 = false) : deassertUnibus s = s := by
  rw [deassertUnibus, unibusPending_eq, h, if_neg Bool.false_ne_true]

theorem deassertUnibus_of_pending {s : State} (h : s.isr.getLsbD 15 = true) :
    deassertUnibus s = setIsr (s.isr &&& ~~~(isrUnibusPending ||| isrVectorMask)) s := by
  rw [deassertUnibus, unibusPending_eq, h, if_pos rfl]

theorem deassertXbus_of_idle {s : State} (h : s.isr.getLsbD 14 = false) : deassertXbus s = s := by
  rw [deassertXbus, xbusPending_eq, h, if_neg Bool.false_ne_true]

theorem deassertXbus_of_pending {s : State} (h : s.isr.getLsbD 14 = true) :
    deassertXbus s = setIsr (s.isr &&& ~~~isrXbusPending) s := by
  rw [deassertXbus, xbusPending_eq, h, if_pos rfl]

/-- The ISR after an enabled unibus assertion: the pending bit, the vector, and the rest as before (R362). -/
theorem assertedUnibus_bit (isr vec : BitVec 16) {k : Nat} (hk : k < 16) :
    ((isr &&& ~~~isrVectorMask) ||| isrUnibusPending ||| (vec &&& isrVectorMask)).getLsbD k =
      if k = 15 then true else if 2 ≤ k ∧ k ≤ 9 then vec.getLsbD k else isr.getLsbD k := by
  simp only [BitVec.getLsbD_or, BitVec.getLsbD_and, BitVec.getLsbD_not, isrVectorMask_bit k hk,
    isrUnibusPending_bit k hk, hk, decide_true, Bool.true_and]
  by_cases top : k = 15
  · simp [top]
  · by_cases vector : 2 ≤ k ∧ k ≤ 9 <;> simp [top, vector]

/-- The ISR after the deassertion of a pending unibus interrupt (R363). -/
theorem deassertedUnibus_bit (isr : BitVec 16) {k : Nat} (hk : k < 16) :
    (isr &&& ~~~(isrUnibusPending ||| isrVectorMask)).getLsbD k =
      if k = 15 ∨ (2 ≤ k ∧ k ≤ 9) then false else isr.getLsbD k := by
  simp only [BitVec.getLsbD_or, BitVec.getLsbD_and, BitVec.getLsbD_not, isrVectorMask_bit k hk,
    isrUnibusPending_bit k hk, hk, decide_true, Bool.true_and, ← Bool.decide_or]
  split <;> simp [*]

theorem assertedXbus_bit (isr : BitVec 16) {k : Nat} (hk : k < 16) :
    (isr ||| isrXbusPending).getLsbD k = if k = 14 then true else isr.getLsbD k := by
  rw [BitVec.getLsbD_or, isrXbusPending_bit k hk]
  split <;> simp [*]

theorem deassertedXbus_bit (isr : BitVec 16) {k : Nat} (hk : k < 16) :
    (isr &&& ~~~isrXbusPending).getLsbD k = if k = 14 then false else isr.getLsbD k := by
  rw [BitVec.getLsbD_and, BitVec.getLsbD_not, isrXbusPending_bit k hk]
  split <;> simp [*]

/-- Settles O57: the new ISR bit by bit, and the pending flag from its bits 15 and 14. -/
theorem unibusInterrupts : Obligations.UnibusInterrupts := by
  intro vec s
  refine ⟨fun disabled => assertUnibus_of_disabled disabled vec, fun enabled => ?asserted,
    deassertUnibus_of_idle, fun pending => ?deasserted⟩
  case asserted =>
    rw [assertUnibus_of_enabled enabled, setIsr_eq]
    refine ⟨?_, fun k hk => assertedUnibus_bit s.isr vec hk⟩
    rw [assertedUnibus_bit s.isr vec (by decide : 15 < 16)]
    rfl
  case deasserted =>
    rw [deassertUnibus_of_pending pending, setIsr_eq]
    refine ⟨?_, fun k hk => deassertedUnibus_bit s.isr hk⟩
    rw [deassertedUnibus_bit s.isr (by decide : 15 < 16), deassertedUnibus_bit s.isr (by decide : 14 < 16)]
    rfl

/-- Settles O58, in the same way. -/
theorem xbusInterrupts : Obligations.XbusInterrupts := by
  intro s
  refine ⟨?asserted, deassertXbus_of_idle, fun pending => ?deasserted⟩
  case asserted =>
    rw [assertXbus, setIsr_eq]
    refine ⟨?_, fun k hk => assertedXbus_bit s.isr hk⟩
    rw [assertedXbus_bit s.isr (by decide : 14 < 16), if_pos rfl, Bool.or_true]
  case deasserted =>
    rw [deassertXbus_of_pending pending, setIsr_eq]
    refine ⟨?_, fun k hk => deassertedXbus_bit s.isr hk⟩
    rw [deassertedXbus_bit s.isr (by decide : 15 < 16), deassertedXbus_bit s.isr (by decide : 14 < 16), if_pos rfl,
      Bool.or_false]
    rfl

/-! ### The unibus page -/

theorem physRead_of_unibus (o : BitVec 8) (va : BitVec 24) (s : State) :
    physRead unibusPage o va s = (unibusRead o s, s) := rfl

theorem physWrite_of_unibus (o : BitVec 8) (v : Word) (va : BitVec 24) (s : State) :
    physWrite unibusPage o v va s = unibusWrite o v s := rfl

theorem startRead_of_unibus {s : State} (access : (translateVa s (cycleAddress s)).accessOk = true)
    (page : (translateVa s (cycleAddress s)).ppn = unibusPage) :
    ∃ c, startRead s =
      { cycleBegun c s with newMd := unibusRead (translateVa s (cycleAddress s)).off s, newMdDelay := 2 } := by
  obtain ⟨c, read⟩ := startRead_of_access access
  rw [page, physRead_of_unibus] at read
  exact ⟨c, read⟩

theorem startWrite_of_unibus {s : State} (access : (translateVa s (cycleAddress s)).accessOk = true)
    (writable : (translateVa s (cycleAddress s)).writeOk = true)
    (page : (translateVa s (cycleAddress s)).ppn = unibusPage) :
    ∃ c, startWrite s = unibusWrite (translateVa s (cycleAddress s)).off s.md (cycleBegun c s) := by
  obtain ⟨c, write⟩ := startWrite_of_access access writable
  rw [page, physWrite_of_unibus] at write
  exact ⟨c, write⟩

/-- What a bus write stores in the ISR: the bits under the mask of its offset (R366). -/
def isrWritten (mask isr : BitVec 16) (v : Word) : BitVec 16 := (isr &&& ~~~mask) ||| (v.setWidth 16 &&& mask)

theorem isrWritten_bit (mask isr : BitVec 16) (v : Word) {k : Nat} (hk : k < 16) :
    (isrWritten mask isr v).getLsbD k = if mask.getLsbD k then v.getLsbD k else isr.getLsbD k := by
  simp only [isrWritten, BitVec.getLsbD_or, BitVec.getLsbD_and, BitVec.getLsbD_not, BitVec.getLsbD_setWidth, hk,
    decide_true, Bool.true_and]
  cases mask.getLsbD k <;> simp

/-- Each of the two ISR locations writes the ISR under a mask of its own (R366). -/
theorem unibusWrite_of_isrLocation {o : BitVec 8} (location : o = 0o20 ∨ o = 0o21) (v : Word) (s : State) :
    ∃ mask, unibusWrite o v s = setIsr (isrWritten mask s.isr v) s ∧
      ∀ k < 16, mask.getLsbD k =
        decide ((o = 0o20 ∧ (k = 0 ∨ (10 ≤ k ∧ k ≤ 13))) ∨ (o = 0o21 ∧ (k = 15 ∨ (2 ≤ k ∧ k ≤ 9)))) := by
  rcases location with rfl | rfl
  · exact ⟨isrWriteMask20, rfl, fun k hk => by simpa using isrWriteMask20_bit k hk⟩
  · exact ⟨isrWriteMask21, rfl, fun k hk => by simpa using isrWriteMask21_bit k hk⟩

/-- The bits that a PROM-disable event has set (R77). -/
theorem promDisableMask_bit : ∀ k < 32, (0o44 : Word).getLsbD k = decide (k = 5 ∨ k = 2) := by decide

theorem promDisable_iff (v : Word) : v &&& 0o44 = 0o44 ↔ (v.getLsbD 5 && v.getLsbD 2) = true := by
  rw [Bool.and_eq_true]
  refine ⟨fun masked => ?_, fun ⟨bit5, bit2⟩ => BitVec.eq_of_getLsbD_eq fun k hk => ?_⟩
  · have bit : ∀ k, (v.getLsbD k && (0o44 : Word).getLsbD k) = (0o44 : Word).getLsbD k := fun k => by
      rw [← BitVec.getLsbD_and, masked]
    exact ⟨(Bool.and_eq_true_iff.mp (bit 5)).1, (Bool.and_eq_true_iff.mp (bit 2)).1⟩
  · rw [BitVec.getLsbD_and, promDisableMask_bit k hk]
    by_cases event : k = 5 ∨ k = 2
    · rcases event with rfl | rfl <;> simp [bit5, bit2]
    · simp [event]

theorem unibusWrite_promDisable (v : Word) (s : State) :
    unibusWrite 0o5 v s =
      { s with promEnabled := if v.getLsbD 5 && v.getLsbD 2 then false else s.promEnabled } := by
  have event : unibusWrite 0o5 v s = if v &&& 0o44 = 0o44 then { s with promEnabled := false } else s := rfl
  rw [event]
  simp only [promDisable_iff]
  split <;> rfl

theorem unibusWrite_of_other {o : BitVec 8} (not20 : o ≠ 0o20) (not21 : o ≠ 0o21) (not5 : o ≠ 0o5) (v : Word)
    (s : State) : unibusWrite o v s = s := by
  rw [unibusWrite, if_neg not20, if_neg not21, if_neg not5]

/-- A write of an ISR location leaves the ISR it stores, its pending flag, and the rest of the begun cycle. -/
theorem sameButCache_of_isrWrite {v : BitVec 16} {c : Cache} {s u : State} (h : u = setIsr v (cycleBegun c s)) :
    sameButCache
      { s with
        accessFault := false, writeFault := false, pageFault := false
        isr := u.isr, interruptPending := u.isr.getLsbD 15 || u.isr.getLsbD 14 } u := by
  rw [h, setIsr_eq]
  rfl

/-- Settles O59: a started cycle on the unibus page, and the page's write offset by offset. -/
theorem statusRegisterOnTheBus : Obligations.StatusRegisterOnTheBus := by
  intro s t access page begun
  refine ⟨?read, fun writable => ?write⟩
  case read =>
    obtain ⟨c, read⟩ := startRead_of_unibus access page
    rw [read, unibusRead, BitVec.ofNat_toNat]
    rfl
  case write =>
    intro u
    obtain ⟨c, write⟩ := startWrite_of_unibus access writable page
    have written : u = unibusWrite t.off s.md (cycleBegun c s) := write
    refine ⟨fun not20 not21 not5 => ?other, fun off => ?prom, fun location => ?isr⟩
    case other =>
      rw [written, unibusWrite_of_other not20 not21 not5]
      rfl
    case prom =>
      rw [written, off, unibusWrite_promDisable]
      rfl
    case isr =>
      obtain ⟨mask, stored, mask_bit⟩ := unibusWrite_of_isrLocation location s.md (cycleBegun c s)
      refine ⟨sameButCache_of_isrWrite (written.trans stored), fun k hk => ?_⟩
      rw [written, stored, setIsr_isr, isrWritten_bit _ _ _ hk, mask_bit k hk]
      simp only [decide_eq_true_eq]
      rfl

/-! ### An assertion in the poll -/

/-- A poll that is no coarse one runs the next list of the fast script. -/
theorem poll_of_fine {s : State} {calls : List DevCall} {rest : List (List DevCall)}
    (script : s.pollFast = calls :: rest) (fine : s.cycles.toNat % 65536 ≠ 0) :
    poll s = devCalls calls { s with pollFast := rest } := by
  have cycles : (pollFast s).cycles = s.cycles := by rw [pollFast_frame s]
  rw [poll, pollSlow, cycles, if_neg fine, pollFast, script]
  rfl

theorem devCalls_assertXbus (s : State) : devCalls [.assertXbus] s = assertXbus s := by
  rw [devCalls_cons, devCalls_nil]
  rfl

/-- Between its poll and its instruction a cycle leaves what concerns the devices (R130). -/
theorem prepare_devicePart (s : State) :
    (prepare s).isr = (poll s).isr ∧ (prepare s).interruptPending = (poll s).interruptPending ∧
      (prepare s).pollFast = (poll s).pollFast := by
  rw [prepare_eq_mergeOa, mergeOa, arranged_eq_straight]
  exact ⟨rfl, rfl, rfl⟩

/-- Settles O60: the poll asserts the interrupt, and the rest of the cycle leaves it to the instruction. -/
theorem pollAssertionIsSeenInTheSameCycle : Obligations.PollAssertionIsSeenInTheSameCycle := by
  intro s rest run script fine
  have polled : poll s = assertXbus { s with pollFast := rest } :=
    (poll_of_fine script fine).trans (devCalls_assertXbus _)
  obtain ⟨isr, pending, fast⟩ := prepare_devicePart s
  refine ⟨prepare s, step_of_run run, ?_, ?_, ?_⟩
  · rw [pending, polled, assertXbus, setIsr_interruptPending, isrPending_eq, assertedXbus_bit _ (by decide : 14 < 16)]
    exact Bool.or_true _
  · rw [isr, polled]
    rfl
  · rw [fast, polled]
    rfl

end Sys2Proof.Machine

/-! SUPPORT. Undisturbed cycles out of the PROM (R130, R135, R392): reset leaves the engine in a state from which each
cycle is `Ruled.straight` and prefetches the PROM word the microcode address names. -/

namespace Sys2Proof.Machine

open Sys2Proof.Ruled

/-- The engine runs from the PROM with no stall and no instruction-modify pending, and no poll has a call to make. -/
structure RunsProm (s : State) : Prop where
  run : s.run = true
  noStall : s.noExecNext = false
  noLo : s.oaLoSet = false
  noHi : s.oaHiSet = false
  promEnabled : s.promEnabled = true
  pollFast : s.pollFast = []
  pollSlow : s.pollSlow = []

/-- Polls without a script leave the state. They could disable the PROM otherwise (log 22). -/
theorem poll_of_no_script {s : State} (fast : s.pollFast = []) (slow : s.pollSlow = []) : poll s = s := by
  have fastPoll : pollFast s = s := by
    cases s
    cases fast
    exact devCalls_nil _
  rw [poll, fastPoll, pollSlow]
  split
  · cases s
    cases slow
    exact devCalls_nil _
  · rfl

theorem fetch_of_promEnabled {s : State} (enabled : s.promEnabled = true) (pc : MicroPc) :
    fetch s pc = s.prom.get (pc.toNat % 512) := if_pos enabled

theorem RunsProm.poll_eq {s : State} (h : RunsProm s) : poll s = s := poll_of_no_script h.pollFast h.pollSlow

theorem RunsProm.step_eq {s : State} (h : RunsProm s) : step s = exec (decode s.p1) (straight s) :=
  stepRunsTheDecodedInstruction _ s (decode_wf s.p1) h.run h.noStall h.noLo h.noHi (encode_decode s.p1).symm

theorem RunsProm.after_straight {s : State} (h : RunsProm s) : RunsProm (straight s) := by
  rw [straight, h.poll_eq]
  exact { h with }

theorem RunsProm.straight_prom {s : State} (h : RunsProm s) : (straight s).prom = s.prom := by
  rw [straight, h.poll_eq]

theorem RunsProm.straight_p1 {s : State} (h : RunsProm s) :
    (straight s).p1 = s.prom.get (s.uPc.toNat % 512) := by
  rw [straight, h.poll_eq]
  exact fetch_of_promEnabled h.promEnabled _

theorem runsProm_reset (words : List Microword) : RunsProm (loadProm words State.reset) where
  run := rfl
  noStall := rfl
  noLo := rfl
  noHi := rfl
  promEnabled := rfl
  pollFast := rfl
  pollSlow := rfl

/-- Settles O15: two undisturbed cycles from reset; the first executes the word 0 reset leaves in `p1`, a NOP (R118),
and prefetches PROM word 0 for the second. -/
theorem firstCyclesAfterReset : Obligations.FirstCyclesAfterReset := by
  intro words s c1 c2
  have atReset : RunsProm s := runsProm_reset words
  have atCycle1 : RunsProm c1 := atReset.after_straight
  have word0 : c1.p1 = s.prom.get 0 := atReset.straight_p1
  have word1 : c2.p1 = s.prom.get 1 := atCycle1.straight_p1.trans (congrArg (·.get 1) atReset.straight_prom)
  have step1 : step s = exec (.nop false false) c1 :=
    atReset.step_eq.trans (congrArg (exec · c1) (decode_encode_nop false false))
  have step2 : step c1 = exec (decode (s.prom.get 0)) c2 := word0 ▸ atCycle1.step_eq
  exact ⟨step1, exec_nop _ _ c1, rfl, word0, rfl, step2, word0, word1, rfl, rfl, rfl⟩

end Sys2Proof.Machine
